-- ==== Sys2Proof/Word.lean ====
section
/-! DEFINITION. The word types of the part: bytes of packets, 16-bit durations and counts, the 32-bit
millisecond count (spec/00 section 4). -/

namespace Sys2Proof

/-- One byte of a packet, or an 8-bit field of a record. -/
abbrev Byte := BitVec 8

/-- A 16-bit field: durations in milliseconds, revisions, the configuration generation. -/
abbrev W16 := BitVec 16

/-- The 32-bit millisecond count (R1). -/
abbrev W32 := BitVec 32

end Sys2Proof
end

