-- ==== Sys2Proof/Syntax.lean ====
section
/-! DEFINITION. The commands of the part: one constructor of `Instr` for each row of
spec/opcode_table.json, and the types of their operands. -/

namespace Sys2Proof

/-- A line L0 to L15 (spec/00 section 4.1). -/
abbrev LineId := Fin 16

/-- A master M0 to M3. -/
abbrev MasterId := Fin 4

/-- A port P0 to P3; master Mn is always the master on port Pn (R86). -/
abbrev PortId := Fin 4

/-- The level of a pin or of a line (spec/00 section 4.4). -/
inductive Level where
  | low
  | high
deriving DecidableEq, Repr

/-- The line configuration block of a WRITE_LINE_CONFIG, its seven fields as the packet carries them
(chapter 10, shared blocks). -/
structure LineBlock where
  policy : Byte
  quorum : Byte
  safe : Byte
  pulseMax : W16
  leaseMax : W16
  feedback : Byte
  settle : Byte
deriving DecidableEq, Repr

/-- The global block of a WRITE_GLOBAL_CONFIG, its six fields as the packet carries them
(chapter 10, shared blocks). -/
structure GlobalBlock where
  presenceTimeout : W16
  voteWindow : W16
  quarantineQuorum : Byte
  restartQuorum : Byte
  configQuorum : Byte
  ports : Byte
deriving DecidableEq, Repr

/-- The commands, in the order of spec/opcode_table.json. A request command carries the port it arrives
on, the source and tag bytes of its packet, and its parameter fields as raw values (Table 10-1 and
section 10.3): every value a packet can carry is an operand here. -/
inductive Instr where
  /-- RSTN_ASSERTED. -/
  | rstnAsserted
  /-- RSTN_RELEASED: the levels that are sampled, of the straps CFGSEL and ADRS7 to ADRS0, of the HOLD
  input and of FBK15 to FBK0 (bit n for FBKn). -/
  | rstnReleased (cfgsel : Level) (adrs : Byte) (holdPin : Level) (fbkPins : W16)
  /-- HOLD_INPUT_CHANGE: the raw HOLD input goes to a level. -/
  | holdInputChange (level : Level)
  /-- HOLD_ASSERTED. -/
  | holdAsserted
  /-- HOLD_RELEASED. -/
  | holdReleased
  /-- FEEDBACK_INPUT_CHANGE: the input FBKn goes to a level. -/
  | feedbackInputChange (n : LineId) (level : Level)
  /-- PULSE_DEADLINE of a line. -/
  | pulseDeadline (n : LineId)
  /-- LEASE_DEADLINE of a line. -/
  | leaseDeadline (n : LineId)
  /-- SETTLE_DEADLINE of a line. -/
  | settleDeadline (n : LineId)
  /-- PRESENCE_DEADLINE of a master. -/
  | presenceDeadline (m : MasterId)
  /-- ENTRY_DEADLINE of the entry with an id. -/
  | entryDeadline (id : Byte)
  /-- IDLE_DEADLINE of the configuration session. -/
  | idleDeadline
  /-- HOLDOFF_DEADLINE of a port. -/
  | holdoffDeadline (p : PortId)
  /-- HANDSHAKE_TIMEOUT of a port. -/
  | handshakeTimeout (p : PortId)
  /-- DISCONNECT_DEADLINE of a port. -/
  | disconnectDeadline (p : PortId)
  /-- RECEIVE_DATA: a DATA character with its byte. -/
  | receiveData (p : PortId) (b : Byte)
  /-- RECEIVE_END. -/
  | receiveEnd (p : PortId)
  /-- RECEIVE_FAIL. -/
  | receiveFail (p : PortId)
  /-- RECEIVE_GRANT. -/
  | receiveGrant (p : PortId)
  /-- RECEIVE_IDLE. -/
  | receiveIdle (p : PortId)
  /-- PARITY_ERROR: a character with even parity. -/
  | parityError (p : PortId)
  /-- TRANSMIT_CHARACTER. -/
  | transmitCharacter (p : PortId)
  /-- PACKET_END_SENT. -/
  | packetEndSent (p : PortId)
  /-- PROCESS_WAITING_PACKET. -/
  | processWaitingPacket (p : PortId)
  /-- READ_STATUS. -/
  | readStatus (p : PortId) (src tag : Byte)
  /-- READ_LINES. -/
  | readLines (p : PortId) (src tag : Byte)
  /-- READ_LINE: the line number. -/
  | readLine (p : PortId) (src tag : Byte) (line : Byte)
  /-- READ_PROPOSALS: the start position. -/
  | readProposals (p : PortId) (src tag : Byte) (start : Byte)
  /-- READ_CONFIG: the configuration target. -/
  | readConfig (p : PortId) (src tag : Byte) (target : Byte)
  /-- READ_SHADOW: the configuration target. -/
  | readShadow (p : PortId) (src tag : Byte) (target : Byte)
  /-- HEARTBEAT. -/
  | heartbeat (p : PortId) (src tag : Byte)
  /-- SUBSCRIBE: the subscription mask. -/
  | subscribe (p : PortId) (src tag : Byte) (mask : Byte)
  /-- RESYNC. -/
  | resync (p : PortId) (src tag : Byte)
  /-- ASSERT_LINE: the line number. -/
  | assertLine (p : PortId) (src tag : Byte) (line : Byte)
  /-- RELEASE_LINE: the line number. -/
  | releaseLine (p : PortId) (src tag : Byte) (line : Byte)
  /-- CLAIM_LINE: the line number and the duration. -/
  | claimLine (p : PortId) (src tag : Byte) (line : Byte) (duration : W16)
  /-- RENEW_LEASE: the line number and the duration. -/
  | renewLease (p : PortId) (src tag : Byte) (line : Byte) (duration : W16)
  /-- RELINQUISH_LINE: the line number. -/
  | relinquishLine (p : PortId) (src tag : Byte) (line : Byte)
  /-- PULSE_LINE: the line number and the duration. -/
  | pulseLine (p : PortId) (src tag : Byte) (line : Byte) (duration : W16)
  /-- PROPOSE: subject kind, subject index, action and argument. -/
  | propose (p : PortId) (src tag : Byte) (kind index action : Byte) (argument : W16)
  /-- WITHDRAW: the entry id. -/
  | withdraw (p : PortId) (src tag : Byte) (id : Byte)
  /-- OPEN_CONFIG. -/
  | openConfig (p : PortId) (src tag : Byte)
  /-- WRITE_LINE_CONFIG: the line number, the select set and the line configuration block. -/
  | writeLineConfig (p : PortId) (src tag : Byte) (line select : Byte) (block : LineBlock)
  /-- WRITE_GLOBAL_CONFIG: the select set and the global block. -/
  | writeGlobalConfig (p : PortId) (src tag : Byte) (select : Byte) (block : GlobalBlock)
  /-- COMMIT_CONFIG. -/
  | commitConfig (p : PortId) (src tag : Byte)
  /-- CLOSE_CONFIG. -/
  | closeConfig (p : PortId) (src tag : Byte)
  /-- MILLISECOND_COUNT_ADVANCE. -/
  | millisecondCountAdvance
deriving DecidableEq, Repr

end Sys2Proof
end

