-- ==== Sys2Proof/Decode.lean ====
section
/-! DEFINITION. The command a word of the table's bits spells. spec/opcode_table.json gives no row of this
block any bits (its rows carry no "fixed" and no "fields"), so no word spells a command. The packets of the
masters are read by Machine/Operands.lean. -/

namespace Sys2Proof

/-- No row of spec/opcode_table.json has bits: no word spells a command. -/
def decodeTableWord (_nbits _w : Nat) : Option Instr := none

end Sys2Proof
end

