-- ==== Sys2Proof/Config.lean ====
section
/-! DEFINITION. The fixed sizes and times of the part, each a number the spec states, and the one value that the
spec leaves unstated, which is free. -/

namespace Sys2Proof.Config

/-- The Proposal Table holds up to 12 entries (R20). -/
def maxEntries : Nat := 12

/-- A notification queue holds at most 8 notices (R163). -/
def queueDepth : Nat := 8

/-- A response queue holds at most 2 responses (R146). -/
def responseSlots : Nat := 2

/-- The receive buffer holds up to 32 characters (R171). -/
def bufferPlaces : Nat := 32

/-- A GRANT stands for eight characters (R170, R183). -/
def grantSize : Nat := 8

/-- Transmit credit never exceeds 64 (R184): a GRANT is in order with a credit of 56 or less (R177). -/
def creditLimit : Nat := 64

/-- The assembly record holds at most 24 bytes (R130). -/
def maxPacket : Nat := 24

/-- A packet of fewer than five bytes is too short to hold a request (R132). -/
def minPacket : Nat := 5

/-- READ_PROPOSALS gives up to four entries (R52). -/
def summariesPerRead : Nat := 4

/-- The session's idle timeout is fixed at 10000 ms (R106, R110). -/
def idleTimeout : W16 := 10000#16

/-- The holdoff in QUIET, 20 microseconds, in nanoseconds (R173). -/
def holdoffNs : Nat := 20000

/-- The handshake timeout, 250 microseconds, in nanoseconds (R175). -/
def handshakeNs : Nat := 250000

/-- The disconnect time, 1.5 microseconds, in nanoseconds (R178). -/
def disconnectNs : Nat := 1500

/-- The HOLD qualification time, 1 ms, in microseconds (R11). -/
def holdUs : Nat := 1000

/-- FREE VALUE (DESIGN CHOICE, log entry 13): the presence byte of a MASTER_CHANGED that reports ABSENT. Section
10.4 gives only "1 PRESENT"; nothing constrains this byte. -/
opaque absentByte : Byte

end Sys2Proof.Config
end

