-- ==== Sys2Proof/Machine/Records.lean ====
section
/-! DEFINITION. The records and the named values of the part's state: configuration, lines, proposals,
masters, notices, ports. Their encodings in packets are in Machine/Formats.lean. -/

namespace Sys2Proof.Machine

open Sys2Proof

/-- A set of masters (assertion set, voter set): bit m is set when Mm is a member (Table 10-3). -/
abbrev MasterSet := BitVec 4

/-- A set of ports (port enable set): bit n is set when Pn is a member (Table 10-3). -/
abbrev PortSet := BitVec 4

/-- A set of the six notice classes: a subscription mask (chapter 10, after Table 10-4). -/
abbrev ClassSet := BitVec 6

/-- A set of the eleven sticky flags (Table 10-4). -/
abbrev FlagSet := BitVec 11

/-- A deadline of the time base: the count at which it was set, and the number of milliseconds after
which it is reached. R1 compares the count with both. -/
structure Deadline where
  setAt : W32
  span : W16
deriving DecidableEq, Repr

/-! ### Lines (chapter 1) -/

/-- The four policies of a line (spec/00 section 1, R4). -/
inductive Policy where
  | shared | leased | quorum | fixed
deriving DecidableEq, Repr

/-- A line's commanded state (R3). -/
inductive Commanded where
  | released | active
deriving DecidableEq, Repr

/-- A line's feedback state (R3, chapter 4). `matching` is the state MATCH. -/
inductive FeedbackState where
  | off | settling | matching | mismatch
deriving DecidableEq, Repr

/-- The qualified HOLD level (R11). -/
inductive HoldLevel where
  | released | asserted
deriving DecidableEq, Repr

/-- A line's configuration part (R2). -/
structure LineConfig where
  policy : Policy
  quorum : Byte
  safe : Level
  pulseMax : W16
  leaseMax : W16
  feedback : Bool
  settle : Byte
deriving DecidableEq, Repr

/-- One record of the Line Table: the configuration part (R2) and the seven fields of the state
part (R3). -/
structure Line where
  cfg : LineConfig
  commanded : Commanded
  asserted : MasterSet
  owner : Option MasterId
  lease : Option Deadline
  pulse : Option Deadline
  feedback : FeedbackState
  settle : Option Deadline
deriving DecidableEq, Repr

/-- The HOLD conditioner (R11): the raw input, the qualified level, and the qualification measurement
(its length in microseconds while it runs). -/
structure HoldUnit where
  raw : Level
  qualified : HoldLevel
  measuring : Option Nat
deriving DecidableEq, Repr

/-! ### Configuration (chapter 6) -/

/-- The six global parameters (R106). -/
structure GlobalConfig where
  presenceTimeout : W16
  voteWindow : W16
  quarantineQuorum : Byte
  restartQuorum : Byte
  configQuorum : Byte
  ports : PortSet
deriving DecidableEq, Repr

/-- A configuration, current or shadow: sixteen line parts and the global parameters (R106). -/
structure Configuration where
  lines : Vector LineConfig 16
  globals : GlobalConfig
deriving DecidableEq, Repr

/-- The session record (R109). A field is present exactly in the states the table of R109 names. -/
inductive Session where
  | none
  | editing (owner : MasterId) (shadow : Configuration) (revision : W16) (idle : Deadline)
  | voting (owner : MasterId) (shadow : Configuration) (revision : W16)
deriving DecidableEq, Repr

/-! ### Proposals (chapter 2) -/

/-- What an entry would change (R20). -/
inductive Subject where
  | line (n : LineId) | master (m : MasterId) | config | part
deriving DecidableEq, Repr

/-- What an entry would do to its subject (R20, R22). -/
inductive Action where
  | assert | release | pulse | quarantine | reinstate | apply | restart
deriving DecidableEq, Repr

/-- The state of an entry (R20): OPEN or READY. -/
inductive EntryState where
  | voting | ready
deriving DecidableEq, Repr

/-- The outcome with which an entry leaves the table (R51). -/
inductive EntryOutcome where
  | carried | expired | withdrawn | superseded | cancelled
deriving DecidableEq, Repr

/-- One entry of the Proposal Table (R20). -/
structure Entry where
  id : Byte
  subject : Subject
  action : Action
  duration : Option W16
  revision : Option W16
  opener : MasterId
  voters : MasterSet
  required : Byte
  deadline : Deadline
  state : EntryState
deriving DecidableEq, Repr

/-! ### Masters (chapter 5) -/

/-- Presence of a master (R86). -/
inductive Presence where
  | absent | present
deriving DecidableEq, Repr

/-- A master record (R86). -/
structure Master where
  presence : Presence
  deadline : Option Deadline
  quarantined : Bool
  lastSource : Option Byte
deriving DecidableEq, Repr

/-- Why the removal fan-out runs (R96). -/
inductive RemovalReason where
  | absent | quarantine
deriving DecidableEq, Repr

/-! ### Notices and status (chapter 8) -/

/-- The cause a LINE_CHANGED carries (R8). -/
inductive Cause where
  | direct | proposal | pulseEnd | leaseEnd | hold | config | restart | absent | quarantine
deriving DecidableEq, Repr

/-- The reason a LEASE_ENDED carries (R66). -/
inductive LeaseReason where
  | expired | relinquished | absent | quarantine | config | restart
deriving DecidableEq, Repr

/-- The change a MASTER_CHANGED carries (R103). -/
inductive MasterChange where
  | admitted | expired | quarantined | reinstated
deriving DecidableEq, Repr

/-- The last restart cause (R154). -/
inductive RestartCause where
  | pin | commanded
deriving DecidableEq, Repr

/-- The six notice classes (R154). -/
inductive NoticeClass where
  | lines | proposals | leases | feedback | masters | part
deriving DecidableEq, Repr

/-- The notices with what each carries (R8, R50, R51, R65, R81, R103, R123, R162). -/
inductive Notice where
  | lineChanged (n : LineId) (driven : Level) (commanded : Commanded) (cause : Cause)
  | proposalOpened (id : Byte) (subject : Subject) (action : Action) (argument : W16)
      (opener : MasterId) (required : Byte) (window : W16)
  | proposalEnded (id : Byte) (subject : Subject) (action : Action) (outcome : EntryOutcome)
      (voters : MasterSet)
  | leaseEnded (n : LineId) (owner : MasterId) (reason : LeaseReason)
  | feedback (n : LineId) (state : FeedbackState) (driven input : Level)
  | masterChanged (m : MasterId) (change : MasterChange) (presence : Presence) (quarantined : Bool)
  | configApplied (generation revision : W16) (lines : BitVec 16) (globals : Bool) (ports : PortSet)
  | holdChanged (level : HoldLevel)
deriving DecidableEq, Repr

/-- What a notice is about: the subject key on which the queue coalesces (chapter 8, section 8.5). -/
inductive NoticeKey where
  | line (n : LineId) | proposal (id : Byte) | lease (n : LineId) | feedback (n : LineId)
  | master (m : MasterId) | config | hold
deriving DecidableEq, Repr

/-- The eleven sticky flags (R155). -/
inductive Flag where
  | restarted | noticeLost | linkError | badCheck | wrongAddress | malformed | truncated
  | leaseLost | quarantinedEvt | feedbackFault | holdSeen
deriving DecidableEq, Repr

/-- The status record of a master (R154). -/
structure StatusRecord where
  flags : FlagSet
  mask : ClassSet
  queue : List Notice
  seq : Byte
deriving DecidableEq, Repr

/-! ### Ports (chapters 7 and 9) -/

/-- The link state of a port (R171). -/
inductive LinkState where
  | off | quiet | listen | handshake | up
deriving DecidableEq, Repr

/-- A character that takes a receive place (R170): DATA, END or FAIL. -/
inductive RxChar where
  | data (b : Byte) | endChar | failChar
deriving DecidableEq, Repr

/-- A character the part sends (R170, R185): DATA, END, GRANT or IDLE. -/
inductive TxChar where
  | data (b : Byte) | endChar | grant | idle
deriving DecidableEq, Repr

/-- Where the assembly record stands (R130). -/
inductive AssemblyState where
  | idle | gathering | overlong | waiting
deriving DecidableEq, Repr

/-- The assembly record (R130). Its field count is the length of `bytes`. -/
structure Assembly where
  state : AssemblyState
  bytes : List Byte
deriving DecidableEq, Repr

/-- The stored-response record (R144). -/
structure StoredResponse where
  valid : Bool
  tag : Byte
  check : Byte
  response : List Byte
deriving DecidableEq, Repr

/-- A packet in transmission (R171): the front response of the response queue, which keeps its slot, or a
notice, whose bytes are held here, with the number of its characters sent. -/
inductive Transmission where
  | response (sent : Nat)
  | notice (bytes : List Byte) (sent : Nat)
deriving DecidableEq, Repr

/-- A port: the Link Port record of R171, the character last put on its transmit pins (`wire`, the model's
own field), and the Transaction Unit's three records (R130, R146, R144). Link deadlines are present with
their length in nanoseconds, or absent. -/
structure Port where
  link : LinkState
  rx : List RxChar
  outstanding : Nat
  credit : Nat
  tx : Option Transmission
  idleSent : Bool
  holdoff : Option Nat
  handshake : Option Nat
  disconnect : Option Nat
  wire : Option TxChar
  assembly : Assembly
  responses : List (List Byte)
  stored : StoredResponse
deriving DecidableEq, Repr

/-- The request codes of Table 10-1. -/
inductive RequestCode where
  | readStatus | readLines | readLine | readProposals | readConfig | readShadow
  | heartbeat | subscribe | resync
  | assertLine | releaseLine | claimLine | renewLease | relinquishLine | pulseLine
  | propose | withdraw
  | openConfig | writeLineConfig | writeGlobalConfig | commitConfig | closeConfig
deriving DecidableEq, Repr

/-- The status codes of Table 10-2. -/
inductive Status where
  | done | voted | carried | ready | alreadyVoted
  | code | format | range | policy | notOwner | busy | conflict | tableFull | quarantined
  | notEligible | stale | noSession | frozen | held | notFound | state
deriving DecidableEq, Repr

/-- A configuration target of READ_CONFIG and READ_SHADOW: a line or the global parameters (R127). -/
inductive Target where
  | line (n : LineId) | globals
deriving DecidableEq, Repr

/-- A decoded request (R140): its parameters as its owning unit takes them. -/
inductive Request where
  | readStatus
  | readLines
  | readLine (n : LineId)
  | readProposals (start : Byte)
  | readConfig (t : Target)
  | readShadow (t : Target)
  | heartbeat
  | subscribe (mask : ClassSet)
  | resync
  | assertLine (n : LineId)
  | releaseLine (n : LineId)
  | claimLine (n : LineId) (d : W16)
  | renewLease (n : LineId) (d : W16)
  | relinquishLine (n : LineId)
  | pulseLine (n : LineId) (d : W16)
  | propose (subject : Subject) (action : Action) (argument : W16)
  | withdraw (id : Byte)
  | openConfig
  | writeLineConfig (n : LineId) (select : Byte) (block : LineBlock)
  | writeGlobalConfig (select : Byte) (block : GlobalBlock)
  | commitConfig
  | closeConfig
deriving DecidableEq, Repr

/-- What an owning unit answers: a status and the bytes of its result (R141). -/
structure Answer where
  status : Status
  result : List Byte
deriving DecidableEq, Repr

/-- The fields of an accepted request that the Transaction Unit keeps (R136, R138, R140). -/
structure RawRequest where
  source : Byte
  tag : Byte
  code : Byte
  params : List Byte
  check : Byte
deriving DecidableEq, Repr

/-- The lines L0 to L15 in ascending order. -/
def allLines : List LineId := [0, 1, 2, 3, 4, 5, 6, 7, 8, 9, 10, 11, 12, 13, 14, 15]

/-- The masters M0 to M3 (and the ports P0 to P3) in ascending order. -/
def allMasters : List MasterId := [0, 1, 2, 3]

end Sys2Proof.Machine
end

