-- ==== Sys2Proof/Machine/Flags.lean ====
section
/-! DEFINITION. Sets held as bits: sets of masters and ports, the sticky flags (R155) with their bit
positions (Table 10-4), and the subscription classes (chapter 10, after Table 10-4). -/

namespace Sys2Proof.Machine

open Sys2Proof

/-- Membership of element i in a set held as bits. -/
def hasBit {w : Nat} (set : BitVec w) (i : Nat) : Bool := set.getLsbD i

/-- The set with element i added. -/
def addBit {w : Nat} (set : BitVec w) (i : Nat) : BitVec w := set ||| BitVec.twoPow w i

/-- The set with element i removed. -/
def removeBit {w : Nat} (set : BitVec w) (i : Nat) : BitVec w := set &&& ~~~ BitVec.twoPow w i

/-- The set that holds element i alone. -/
def onlyBit {w : Nat} (i : Nat) : BitVec w := BitVec.twoPow w i

/-- The number of masters in a set: the voter count of R20. -/
def masterCount (set : MasterSet) : Nat := allMasters.countP fun m => hasBit set m.val

/-- The position of a flag in the sticky flag word (Table 10-4). -/
def flagBit : Flag → Nat
  | .restarted => 0
  | .noticeLost => 1
  | .linkError => 2
  | .badCheck => 3
  | .wrongAddress => 4
  | .malformed => 5
  | .truncated => 6
  | .leaseLost => 7
  | .quarantinedEvt => 8
  | .feedbackFault => 9
  | .holdSeen => 10

/-- A flag is set in a master's record. -/
def hasFlag (flags : FlagSet) (f : Flag) : Bool := hasBit flags (flagBit f)

/-- Setting a flag that is already set leaves it set (section 8.2). -/
def withFlag (flags : FlagSet) (f : Flag) : FlagSet := addBit flags (flagBit f)

/-- RESTARTED alone: the flags after either reset (R168, R169). -/
def restartedAlone : FlagSet := onlyBit (flagBit .restarted)

/-- The bit of a class in a subscription mask (chapter 10, after Table 10-4). -/
def classBit : NoticeClass → Nat
  | .lines => 0
  | .proposals => 1
  | .leases => 2
  | .feedback => 3
  | .masters => 4
  | .part => 5

/-- A mask holds a class. -/
def subscribed (mask : ClassSet) (c : NoticeClass) : Bool := hasBit mask (classBit c)

end Sys2Proof.Machine
end

