-- ==== Sys2Proof/Machine/Defaults.lean ====
section
/-! DEFINITION. The value of every record after a pin reset: R18 (lines), R104 (masters), R107 (the strap
configuration sets), R152 (transactions), R168 (status), R190 (ports). -/

namespace Sys2Proof.Machine

open Sys2Proof

/-- The line configuration part of the strap sets (R107): CFGSEL low selects GUARDED, high OPEN. -/
def defaultLineConfig (cfgsel : Level) : LineConfig where
  policy := match cfgsel with
    | .low => .quorum
    | .high => .shared
  quorum := 2#8
  safe := .low
  pulseMax := 1000#16
  leaseMax := 10000#16
  feedback := false
  settle := 20#8

/-- The default global parameters (R106). -/
def defaultGlobals : GlobalConfig where
  presenceTimeout := 1000#16
  voteWindow := 5000#16
  quarantineQuorum := 2#8
  restartQuorum := 3#8
  configQuorum := 2#8
  ports := 0xF#4

/-- The strap configuration set (R107). -/
def defaultConfiguration (cfgsel : Level) : Configuration where
  lines := Vector.replicate 16 (defaultLineConfig cfgsel)
  globals := defaultGlobals

/-- A line record after pin reset (R18). -/
def resetLine (cfg : LineConfig) : Line where
  cfg := cfg
  commanded := .released
  asserted := 0#4
  owner := none
  lease := none
  pulse := none
  feedback := .off
  settle := none

/-- A master record after pin reset (R104). -/
def resetMaster : Master where
  presence := .absent
  deadline := none
  quarantined := false
  lastSource := none

/-- A status record after pin reset (R168). -/
def resetStatus : StatusRecord where
  flags := restartedAlone
  mask := 0#6
  queue := []
  seq := 0#8

/-- The link addresses 1 to 254 are valid (R172). -/
def validAddress (a : Byte) : Bool := a != 0#8 && a != 0xFF#8

/-- A port that is silent, ignores what it receives and holds nothing: the fields R172 gives for OFF, with
the transaction state of R152. The three fields of the stored-response record that R152 leaves open while
it is not valid are DESIGN CHOICE values (log entry 2). -/
def silentPort : Port where
  link := .off
  rx := []
  outstanding := 0
  credit := 0
  tx := none
  idleSent := false
  holdoff := none
  handshake := none
  disconnect := none
  wire := none
  assembly := ⟨.idle, []⟩
  responses := []
  stored := ⟨false, 0#8, 0#8, []⟩

/-- A port after pin reset (R190): QUIET with its holdoff running when the link address is valid,
otherwise OFF. -/
def resetPort (adrs : Byte) : Port :=
  if validAddress adrs then
    { silentPort with link := .quiet, holdoff := some Config.holdoffNs }
  else silentPort

/-- The qualified HOLD level the conditioner takes at the release of RSTN (R12). -/
def sampledHold (pin : Level) : HoldLevel :=
  match pin with
  | .low => .released
  | .high => .asserted

/-- The levels of FBK15 to FBK0 from a word, bit n for FBKn. -/
def pinLevels (w : W16) : Vector Level 16 :=
  Vector.ofFn fun n => if hasBit w n.val then .high else .low

end Sys2Proof.Machine
end

