-- ==== Sys2Proof/Machine/State.lean ====
section
/-! DEFINITION. The state of the part as plain data, the reasons a step can stop, and the state after a pin
reset. -/

namespace Sys2Proof.Machine

open Sys2Proof

/-- The state of the part: what every block of spec/00 section 2 owns, the pins it samples, and the queue
of commands not yet taken (the model's own). -/
structure State where
  /-- The level of the RSTN pin: low is asserted. -/
  rstn : Level
  /-- The millisecond count (R1). -/
  count : W32
  /-- The part's link address, sampled at pin reset (R137, R172). -/
  linkAddress : Byte
  /-- The HOLD conditioner (R11). -/
  hold : HoldUnit
  /-- The levels of the feedback inputs FBK0 to FBK15 (R79). -/
  fbk : Vector Level 16
  /-- The Line Table (R2, R3). -/
  lines : Vector Line 16
  /-- The Proposal Table, oldest entry first (R20, R21). -/
  table : List Entry
  /-- The next-id counter (R23). -/
  nextId : Byte
  /-- The Master Registry (R86). -/
  masters : Vector Master 4
  /-- The current configuration (R106). -/
  config : Configuration
  /-- The configuration generation (R108). -/
  generation : W16
  /-- The session record (R109). -/
  session : Session
  /-- The status record of each master (R154). -/
  status : Vector StatusRecord 4
  /-- The last restart cause (R154). -/
  lastRestart : RestartCause
  /-- The ports (R171, R130, R146, R144). -/
  ports : Vector Port 4
  /-- Commands not yet taken, first in first out. -/
  pending : List Instr
deriving DecidableEq, Repr

/-- Why the part stops with a fault. -/
inductive Fault where
  /-- TRANSMIT_CHARACTER raises it when a notice is to begin for a master whose last source address is
  absent. R89: "a notification never needs an address that is absent". Safe: no run from a pin reset needs
  it, and no value is invented. -/
  | noticeWithoutAddress
deriving DecidableEq, Repr

/-- Why the model gives a command no meaning. -/
inductive Refusal where
  /-- `exec` raises it for a command that has no meaning yet, by its mnemonic. Safe: nothing is claimed of
  such a command. No arm raises it. -/
  | notModelled (mnemonic : String)
deriving DecidableEq, Repr

/-- The part right after the release of RSTN, with the levels it samples there: the straps CFGSEL and ADRS,
the HOLD input and the feedback inputs (R1, R12, R18, R49, R104, R107, R109, R152, R168, R190). -/
def State.afterPinReset (cfgsel : Level) (adrs : Byte) (holdPin : Level) (fbkPins : W16) : State where
  rstn := .high
  count := 0#32
  linkAddress := adrs
  hold := ⟨holdPin, sampledHold holdPin, none⟩
  fbk := pinLevels fbkPins
  lines := Vector.replicate 16 (resetLine (defaultLineConfig cfgsel))
  table := []
  nextId := 1#8
  masters := Vector.replicate 4 resetMaster
  config := defaultConfiguration cfgsel
  generation := 0#16
  session := .none
  status := Vector.replicate 4 resetStatus
  lastRestart := .pin
  ports := Vector.replicate 4 (resetPort adrs)
  pending := []

/-- The part right after a pin reset. The levels it samples there are those of log entry 1 (DESIGN CHOICE):
CFGSEL low, address 0x40, HOLD low, every feedback input LOW. -/
def State.reset : State := State.afterPinReset .low 0x40#8 .low 0#16

end Sys2Proof.Machine
end

