-- ==== Sys2Proof/Machine/Ops.lean ====
section
/-! DEFINITION. The named operations over the state's records: reading and replacing a record, the time
base, the sticky flags, and raising a notice (its key, its class, its routing and its place in a queue). -/

namespace Sys2Proof.Machine

open Sys2Proof

/-! ### Records -/

/-- Each of a fixed number of records changed by a function. -/
def eachRecord {α : Type} {n : Nat} (f : α → α) (v : Vector α n) : Vector α n :=
  Vector.ofFn fun i => f (v.get i)

/-- The record of line n. -/
def State.line (s : State) (n : LineId) : Line := s.lines.get n

/-- Replaces the record of line n. -/
def State.setLine (s : State) (n : LineId) (l : Line) : State :=
  { s with lines := s.lines.set n.val l n.isLt }

/-- Changes the record of line n by a function. -/
def State.updLine (s : State) (n : LineId) (f : Line → Line) : State := s.setLine n (f (s.line n))

/-- The record of master m. -/
def State.master (s : State) (m : MasterId) : Master := s.masters.get m

/-- Replaces the record of master m. -/
def State.setMaster (s : State) (m : MasterId) (r : Master) : State :=
  { s with masters := s.masters.set m.val r m.isLt }

/-- The status record of master m. -/
def State.stat (s : State) (m : MasterId) : StatusRecord := s.status.get m

/-- Replaces the status record of master m. -/
def State.setStat (s : State) (m : MasterId) (r : StatusRecord) : State :=
  { s with status := s.status.set m.val r m.isLt }

/-- The record of port p. -/
def State.port (s : State) (p : PortId) : Port := s.ports.get p

/-- Replaces the record of port p. -/
def State.setPort (s : State) (p : PortId) (r : Port) : State :=
  { s with ports := s.ports.set p.val r p.isLt }

/-- Changes the record of port p by a function. -/
def State.updPort (s : State) (p : PortId) (f : Port → Port) : State := s.setPort p (f (s.port p))

/-- The level of the feedback input FBKn. -/
def State.input (s : State) (n : LineId) : Level := s.fbk.get n

/-- Replaces the Proposal Table. -/
def State.setTable (s : State) (t : List Entry) : State := { s with table := t }

/-- Replaces the session record. -/
def State.setSession (s : State) (x : Session) : State := { s with session := x }

/-- The configuration part of line n in a configuration. -/
def Configuration.line (c : Configuration) (n : LineId) : LineConfig := c.lines.get n

/-- Replaces the configuration part of line n in a configuration. -/
def Configuration.setLine (c : Configuration) (n : LineId) (l : LineConfig) : Configuration :=
  { c with lines := c.lines.set n.val l n.isLt }

/-- The other level: a line's active level is the level opposite its safe level (spec/00 section 4.4). -/
def opposite : Level → Level
  | .low => .high
  | .high => .low

/-- An eligible master is PRESENT and not quarantined (spec/00 section 4.5). -/
def State.eligible (s : State) (m : MasterId) : Bool :=
  (s.master m).presence = .present && !(s.master m).quarantined

/-- The qualified HOLD level is asserted. -/
def State.held (s : State) : Bool := s.hold.qualified = .asserted

/-! ### The time base (R1) -/

/-- A deadline set d ms from now. -/
def State.deadlineIn (s : State) (d : W16) : Deadline := ⟨s.count, d⟩

/-- The count that a deadline names: the count at which it was set plus its duration, modulo 2^32. -/
def Deadline.at (d : Deadline) : W32 := d.setAt + d.span.setWidth 32

/-- A deadline set d ms from now is reached when the count, less the count at which it was set and taken
modulo 2^32, reaches d (R1). -/
def Deadline.reached (d : Deadline) (now : W32) : Bool := d.span.toNat ≤ (now - d.setAt).toNat

/-- The remaining time of a deadline, in milliseconds: the deadline less the count modulo 2^32 (R1), and 1
for a deadline that has been reached but not yet taken as an event (R17, R52, R54). -/
def Deadline.remaining (d : Deadline) (now : W32) : W16 :=
  if d.reached now then 1#16 else (d.at - now).setWidth 16

/-- The remaining time a result reports: 0 when the deadline is absent (R54, R75). -/
def remainingOf (d : Option Deadline) (now : W32) : W16 :=
  match d with
  | none => 0#16
  | some x => x.remaining now

/-! ### Sticky flags (R155) -/

/-- Sets a flag in a status record. -/
def StatusRecord.setFlag (r : StatusRecord) (f : Flag) : StatusRecord :=
  { r with flags := withFlag r.flags f }

/-- Sets a flag in the flags of one master. -/
def setFlag (m : MasterId) (f : Flag) (s : State) : State := s.setStat m ((s.stat m).setFlag f)

/-- Sets a flag in the flags of all four masters (R13, R80). -/
def setFlagAll (f : Flag) (s : State) : State :=
  { s with status := eachRecord (fun r => r.setFlag f) s.status }

/-! ### Raising notices (chapter 8, section 8.5) -/

/-- The subject key of a notice. -/
def Notice.key : Notice → NoticeKey
  | .lineChanged n _ _ _ => .line n
  | .proposalOpened id _ _ _ _ _ _ => .proposal id
  | .proposalEnded id _ _ _ _ => .proposal id
  | .leaseEnded n _ _ => .lease n
  | .feedback n _ _ _ => .feedback n
  | .masterChanged m _ _ _ => .master m
  | .configApplied _ _ _ _ _ => .config
  | .holdChanged _ => .hold

/-- The class of a notice. -/
def Notice.cls : Notice → NoticeClass
  | .lineChanged _ _ _ _ => .lines
  | .proposalOpened _ _ _ _ _ _ _ => .proposals
  | .proposalEnded _ _ _ _ _ => .proposals
  | .leaseEnded _ _ _ => .leases
  | .feedback _ _ _ _ => .feedback
  | .masterChanged _ _ _ _ => .masters
  | .configApplied _ _ _ _ _ => .part
  | .holdChanged _ => .part

/-- Places a notice that is routed to a master in its queue (R163): in the place of the entry with its key;
or last, when the queue holds fewer than 8; or not at all, with NOTICE_LOST. -/
def StatusRecord.enqueue (r : StatusRecord) (nt : Notice) : StatusRecord :=
  if r.queue.any (fun x => x.key = nt.key) then
    { r with queue := r.queue.map fun x => if x.key = nt.key then nt else x }
  else if r.queue.length < Config.queueDepth then { r with queue := r.queue ++ [nt] }
  else r.setFlag .noticeLost

/-- A notice is routed to a master that is PRESENT and whose mask holds its class (R161). -/
def State.routed (s : State) (nt : Notice) (m : MasterId) : Bool :=
  (s.master m).presence = .present && subscribed (s.stat m).mask nt.cls

/-- Raises a notice: it is placed in the queue of every master it is routed to (R161). -/
def raise (nt : Notice) (s : State) : State :=
  { s with status := Vector.ofFn fun m => if s.routed nt m then (s.stat m).enqueue nt else s.stat m }

end Sys2Proof.Machine
end

