-- ==== Sys2Proof/Machine/Formats.lean ====
section
/-! DEFINITION. Packet formats (chapter 10): the encodings of Tables 10-1 to 10-6, the shared blocks, the
CRC-8, and the layouts of requests, responses and notifications. -/

namespace Sys2Proof.Machine

open Sys2Proof

/-! ### Bytes and words -/

/-- The byte of a small number. -/
def byteOf (n : Nat) : Byte := BitVec.ofNat 8 n

/-- The two bytes of a 16-bit field, most significant byte first (spec/00 section 4.1). -/
def wordBytes (w : W16) : List Byte := [w.extractLsb' 8 8, w.extractLsb' 0 8]

/-- A 16-bit field from its two bytes, the first holding the high part. -/
def bytesWord (hi lo : Byte) : W16 := hi ++ lo

/-- A yes/no item: 0 no, 1 yes (Table 10-3). -/
def boolByte (b : Bool) : Byte := if b then 1#8 else 0#8

/-! ### The check byte (R192) -/

/-- One shift of the remainder register: left by one, XORed with 0x07 when the bit shifted out was 1. -/
def crcShift (r : Byte) : Byte := if r.msb then (r <<< 1) ^^^ 0x07#8 else r <<< 1

/-- One byte through the register: XORed in, then eight shifts. -/
def crcByte (r b : Byte) : Byte := Nat.repeat crcShift 8 (r ^^^ b)

/-- The CRC-8 over bytes in packet order; the register starts at 0. -/
def crc8 (bytes : List Byte) : Byte := bytes.foldl crcByte 0#8

/-! ### Table 10-1: request codes and parameter lengths -/

/-- The request code byte (Table 10-1). -/
def RequestCode.byte : RequestCode → Byte
  | .readStatus => 0x01#8
  | .readLines => 0x02#8
  | .readLine => 0x03#8
  | .readProposals => 0x04#8
  | .readConfig => 0x05#8
  | .readShadow => 0x06#8
  | .heartbeat => 0x10#8
  | .subscribe => 0x11#8
  | .resync => 0x12#8
  | .assertLine => 0x20#8
  | .releaseLine => 0x21#8
  | .claimLine => 0x22#8
  | .renewLease => 0x23#8
  | .relinquishLine => 0x24#8
  | .pulseLine => 0x25#8
  | .propose => 0x30#8
  | .withdraw => 0x31#8
  | .openConfig => 0x40#8
  | .writeLineConfig => 0x41#8
  | .writeGlobalConfig => 0x42#8
  | .commitConfig => 0x43#8
  | .closeConfig => 0x44#8

/-- The parameter length of each request code (Table 10-1, R193). -/
def RequestCode.paramLength : RequestCode → Nat
  | .readLine | .readProposals | .readConfig | .readShadow | .subscribe => 1
  | .assertLine | .releaseLine | .relinquishLine | .withdraw => 1
  | .claimLine | .renewLease | .pulseLine => 3
  | .propose => 5
  | .writeLineConfig => 11
  | .writeGlobalConfig => 9
  | _ => 0

/-- The twenty-two request codes (Table 10-1). -/
def requestCodes : List RequestCode :=
  [.readStatus, .readLines, .readLine, .readProposals, .readConfig, .readShadow,
   .heartbeat, .subscribe, .resync,
   .assertLine, .releaseLine, .claimLine, .renewLease, .relinquishLine, .pulseLine,
   .propose, .withdraw,
   .openConfig, .writeLineConfig, .writeGlobalConfig, .commitConfig, .closeConfig]

/-- The request code a byte is, if it is one. -/
def requestCodeOf (b : Byte) : Option RequestCode := requestCodes.find? fun c => c.byte = b

/-! ### Table 10-2: status codes -/

/-- The status byte (Table 10-2). -/
def Status.byte : Status → Byte
  | .done => 0x00#8
  | .voted => 0x01#8
  | .carried => 0x02#8
  | .ready => 0x03#8
  | .alreadyVoted => 0x04#8
  | .code => 0x80#8
  | .format => 0x81#8
  | .range => 0x82#8
  | .policy => 0x83#8
  | .notOwner => 0x84#8
  | .busy => 0x85#8
  | .conflict => 0x86#8
  | .tableFull => 0x87#8
  | .quarantined => 0x88#8
  | .notEligible => 0x89#8
  | .stale => 0x8A#8
  | .noSession => 0x8B#8
  | .frozen => 0x8C#8
  | .held => 0x8D#8
  | .notFound => 0x8E#8
  | .state => 0x8F#8

/-! ### Table 10-3: field encodings -/

/-- Line number. -/
def lineByte (n : LineId) : Byte := byteOf n.val

/-- Master number. -/
def masterByte (m : MasterId) : Byte := byteOf m.val

/-- Master number, or 0xFF for none (Table 10-3, R194). -/
def ownerByte : Option MasterId → Byte
  | none => 0xFF#8
  | some m => masterByte m

/-- Master set or port set: bits 7 to 4 zero. -/
def setByte (set : BitVec 4) : Byte := set.setWidth 8

/-- Level: 0 LOW, 1 HIGH. -/
def levelByte : Level → Byte
  | .low => 0#8
  | .high => 1#8

/-- Commanded state: 0 RELEASED, 1 ACTIVE. -/
def Commanded.byte : Commanded → Byte
  | .released => 0#8
  | .active => 1#8

/-- Policy: 0 SHARED, 1 LEASED, 2 QUORUM, 3 FIXED. -/
def Policy.byte : Policy → Byte
  | .shared => 0#8
  | .leased => 1#8
  | .quorum => 2#8
  | .fixed => 3#8

/-- Feedback state: 0 OFF, 1 SETTLING, 2 MATCH, 3 MISMATCH. -/
def FeedbackState.byte : FeedbackState → Byte
  | .off => 0#8
  | .settling => 1#8
  | .matching => 2#8
  | .mismatch => 3#8

/-- HOLD level: 0 released, 1 asserted. -/
def HoldLevel.byte : HoldLevel → Byte
  | .released => 0#8
  | .asserted => 1#8

/-- Last restart cause: 0 PIN, 1 COMMANDED. -/
def RestartCause.byte : RestartCause → Byte
  | .pin => 0#8
  | .commanded => 1#8

/-- Session state: 0 NONE, 1 EDITING, 2 VOTING. -/
def Session.stateByte : Session → Byte
  | .none => 0#8
  | .editing _ _ _ _ => 1#8
  | .voting _ _ _ => 2#8

/-- The session's owner, absent in NONE. -/
def Session.owner? : Session → Option MasterId
  | .none => Option.none
  | .editing o _ _ _ => some o
  | .voting o _ _ => some o

/-- Entry state: 0 OPEN, 1 READY. -/
def EntryState.byte : EntryState → Byte
  | .voting => 0#8
  | .ready => 1#8

/-- Subject kind: 0 LINE, 1 MASTER, 2 CONFIG, 3 PART. -/
def Subject.kindByte : Subject → Byte
  | .line _ => 0#8
  | .master _ => 1#8
  | .config => 2#8
  | .part => 3#8

/-- Subject index: the line or master number, 0 for CONFIG and PART. -/
def Subject.indexByte : Subject → Byte
  | .line n => lineByte n
  | .master m => masterByte m
  | .config => 0#8
  | .part => 0#8

/-- Action: 1 ASSERT to 7 RESTART. -/
def Action.byte : Action → Byte
  | .assert => 1#8
  | .release => 2#8
  | .pulse => 3#8
  | .quarantine => 4#8
  | .reinstate => 5#8
  | .apply => 6#8
  | .restart => 7#8

/-- Outcome: 1 CARRIED to 5 CANCELLED. -/
def EntryOutcome.byte : EntryOutcome → Byte
  | .carried => 1#8
  | .expired => 2#8
  | .withdrawn => 3#8
  | .superseded => 4#8
  | .cancelled => 5#8

/-- Presence: 1 PRESENT (section 10.4). The spec states no byte for ABSENT: the model leaves it a free value
(DESIGN CHOICE, log entry 13). -/
def Presence.byte : Presence → Byte
  | .absent => Config.absentByte
  | .present => 1#8

/-- Configuration target: 0 to 15 for a line, 0x10 for the global parameters. -/
def Target.byte : Target → Byte
  | .line n => lineByte n
  | .globals => 0x10#8

/-- LINE_CHANGED cause (Table 10-6). -/
def Cause.byte : Cause → Byte
  | .direct => 1#8
  | .proposal => 2#8
  | .pulseEnd => 3#8
  | .leaseEnd => 4#8
  | .hold => 5#8
  | .config => 6#8
  | .restart => 7#8
  | .absent => 8#8
  | .quarantine => 9#8

/-- LEASE_ENDED reason (Table 10-6). -/
def LeaseReason.byte : LeaseReason → Byte
  | .expired => 1#8
  | .relinquished => 2#8
  | .absent => 3#8
  | .quarantine => 4#8
  | .config => 5#8
  | .restart => 6#8

/-- MASTER_CHANGED change (Table 10-6). -/
def MasterChange.byte : MasterChange → Byte
  | .admitted => 1#8
  | .expired => 2#8
  | .quarantined => 3#8
  | .reinstated => 4#8

/-- The sticky flag word, bits 15 to 11 zero (Table 10-4). -/
def flagBytes (f : FlagSet) : List Byte := wordBytes (f.setWidth 16)

/-! ### Shared blocks -/

/-- The line configuration block, 9 bytes. -/
def LineConfig.bytes (c : LineConfig) : List Byte :=
  [c.policy.byte, c.quorum, levelByte c.safe] ++ wordBytes c.pulseMax ++ wordBytes c.leaseMax ++
    [boolByte c.feedback, c.settle]

/-- The global block, 8 bytes. -/
def GlobalConfig.bytes (g : GlobalConfig) : List Byte :=
  wordBytes g.presenceTimeout ++ wordBytes g.voteWindow ++
    [g.quarantineQuorum, g.restartQuorum, g.configQuorum, setByte g.ports]

/-- The block of a configuration target. -/
def Configuration.block (c : Configuration) : Target → List Byte
  | .line n => (c.line n).bytes
  | .globals => c.globals.bytes

/-! ### Packets -/

/-- A request packet: destination, source, tag, request code, parameters, check byte (section 10.1). -/
def requestPacket (dest src tag code : Byte) (params : List Byte) : List Byte :=
  let body := [dest, src, tag, code] ++ params
  body ++ [crc8 body]

/-- The response code: the request code plus 0x80, and 0xFF for a request refused with CODE (R142). -/
def responseCode (code : Byte) (st : Status) : Byte := if st = .code then 0xFF#8 else code + 0x80#8

/-- A response packet (R142): destination (the request's source), source (the part), tag, response code,
status, result, check byte. -/
def responsePacket (addr : Byte) (q : RawRequest) (a : Answer) : List Byte :=
  let body := [q.source, addr, q.tag, responseCode q.code a.status, a.status.byte] ++ a.result
  body ++ [crc8 body]

/-- The kind byte of a notice (Table 10-5). -/
def Notice.kindByte : Notice → Byte
  | .lineChanged _ _ _ _ => 0x01#8
  | .proposalOpened _ _ _ _ _ _ _ => 0x02#8
  | .proposalEnded _ _ _ _ _ => 0x03#8
  | .leaseEnded _ _ _ => 0x04#8
  | .feedback _ _ _ _ => 0x05#8
  | .masterChanged _ _ _ _ => 0x06#8
  | .configApplied _ _ _ _ _ => 0x07#8
  | .holdChanged _ => 0x08#8

/-- The payload of a notice (section 10.4). -/
def Notice.payload : Notice → List Byte
  | .lineChanged n d c k => [lineByte n, levelByte d, c.byte, k.byte]
  | .proposalOpened id sub act arg op req win =>
    [id, sub.kindByte, sub.indexByte, act.byte] ++ wordBytes arg ++ [masterByte op, req] ++ wordBytes win
  | .proposalEnded id sub act out v =>
    [id, sub.kindByte, sub.indexByte, act.byte, out.byte, setByte v]
  | .leaseEnded n o r => [lineByte n, masterByte o, r.byte]
  | .feedback n st d i => [lineByte n, st.byte, levelByte d, levelByte i]
  | .masterChanged m c p q => [masterByte m, c.byte, p.byte, boolByte q]
  | .configApplied g r ls gl ps =>
    wordBytes g ++ wordBytes r ++ wordBytes ls ++ [boolByte gl, setByte ps]
  | .holdChanged h => [h.byte]

/-- A notification packet (section 10.1): destination, source (the part), notice sequence, 0xE0, kind,
payload, check byte. -/
def notificationPacket (dest addr seq : Byte) (nt : Notice) : List Byte :=
  let body := [dest, addr, seq, 0xE0#8, nt.kindByte] ++ nt.payload
  body ++ [crc8 body]

end Sys2Proof.Machine
end

