-- ==== Sys2Proof/Machine/Lines.lean ====
section
/-! DEFINITION. The Line Control Unit and the Pulse and Feedback Unit (chapters 1, 3 and 4): driven levels,
claims on a line and what they report, lease ends, the line clear, the removal of a master, feedback. -/

namespace Sys2Proof.Machine

open Sys2Proof

/-! ### Driven level (R5) -/

/-- The driven level of a line record under a qualified HOLD level (R5): the active level while HOLD is not
asserted, the policy is not FIXED and the commanded state is ACTIVE, otherwise the safe level. -/
def drivenLevel (hold : HoldLevel) (l : Line) : Level :=
  if hold = .released ∧ l.cfg.policy ≠ .fixed ∧ l.commanded = .active then opposite l.cfg.safe
  else l.cfg.safe

/-- The driven level of line n. -/
def State.driven (s : State) (n : LineId) : Level := drivenLevel s.hold.qualified (s.line n)

/-- The level on the output pin OUTn: the driven level, and LOW while RSTN is asserted (R5, R18). -/
def State.pinLevel (s : State) (n : LineId) : Level :=
  match s.rstn with
  | .low => .low
  | .high => s.driven n

/-! ### Feedback settling (R76, R77) -/

/-- The settling that a change of driven level starts when the feedback check is on (R76). -/
def Line.settleOnChange (now : W32) (l : Line) : Line :=
  if l.cfg.feedback then
    { l with feedback := .settling, settle := some ⟨now, l.cfg.settle.setWidth 16⟩ }
  else l

/-- The restart of the comparison by a line clear, whether or not the driven level changes (R77). -/
def Line.restartComparison (now : W32) (l : Line) : Line :=
  if l.cfg.feedback then
    { l with feedback := .settling, settle := some ⟨now, l.cfg.settle.setWidth 16⟩ }
  else { l with feedback := .off, settle := none }

/-! ### Claims on a line -/

/-- Compares the driven level of line n with its level before a claim; on a change raises LINE_CHANGED with
the claim's cause and restarts feedback settling (R6, R7, R8). -/
def reportChange (n : LineId) (before : Level) (cause : Cause) (s : State) : State :=
  if s.driven n = before then s
  else
    (raise (.lineChanged n (s.driven n) (s.line n).commanded cause) s).updLine n
      (Line.settleOnChange s.count)

/-- A claim that changes the record of line n by f, taken whole and reported under a cause (R6). -/
def lineClaim (n : LineId) (cause : Cause) (f : Line → Line) (s : State) : State :=
  reportChange n (s.driven n) cause (s.updLine n f)

/-- Adds a master to the assertion set: the line is ACTIVE (R4, R55). -/
def Line.addAssertion (m : MasterId) (l : Line) : Line :=
  { l with asserted := addBit l.asserted m.val, commanded := .active }

/-- Removes a master from the assertion set: the line is RELEASED when the set is empty (R4, R10, R56). -/
def Line.dropAssertion (m : MasterId) (l : Line) : Line :=
  let rest := removeBit l.asserted m.val
  { l with asserted := rest, commanded := if rest = 0#4 then .released else .active }

/-- Commands a line ACTIVE and clears any pulse deadline (R39 ASSERT, R62). -/
def Line.commandActive (l : Line) : Line := { l with commanded := .active, pulse := none }

/-- Commands a line RELEASED and clears any pulse deadline (R39 RELEASE, R62, R72). -/
def Line.commandReleased (l : Line) : Line := { l with commanded := .released, pulse := none }

/-- Commands a line ACTIVE with a pulse deadline d ms from now (R39 PULSE, R63, R71). -/
def Line.startPulse (now : W32) (d : W16) (l : Line) : Line :=
  { l with commanded := .active, pulse := some ⟨now, d⟩ }

/-- Sets the owner and the lease deadline d ms from now (R60, R61). -/
def Line.takeLease (m : MasterId) (now : W32) (d : W16) (l : Line) : Line :=
  { l with owner := some m, lease := some ⟨now, d⟩ }

/-- What a lease end does to the record (R66 steps 1 to 3). -/
def Line.dropLease (l : Line) : Line :=
  { l with owner := none, lease := none, commanded := .released, pulse := none }

/-- What a line clear does to the record (R9 steps 1 to 3). -/
def Line.clear (now : W32) (l : Line) : Line :=
  Line.restartComparison now
    { l with commanded := .released, asserted := 0#4, owner := none, lease := none, pulse := none }

/-! ### Lease end and line clear -/

/-- Raises LEASE_ENDED for a former owner and sets its LEASE_LOST flag, for every reason but RELINQUISHED
(R66 steps 4 and 5). -/
def leaseEndReport (n : LineId) (m : MasterId) (reason : LeaseReason) (s : State) : State :=
  let t := raise (.leaseEnded n m reason) s
  if reason = .relinquished then t else setFlag m .leaseLost t

/-- Ends the lease on line n (R66). Without an owner there is no lease to end. -/
def endLease (n : LineId) (reason : LeaseReason) (cause : Cause) (s : State) : State :=
  match (s.line n).owner with
  | none => s
  | some m =>
    reportChange n (s.driven n) cause (leaseEndReport n m reason (s.updLine n Line.dropLease))

/-- The line clear of line n (R9), compared with the driven level before the claim. -/
def lineClear (n : LineId) (reason : LeaseReason) (cause : Cause) (before : Level) (s : State) : State :=
  let t := s.updLine n (Line.clear s.count)
  reportChange n before cause
    (match (s.line n).owner with
    | none => t
    | some m => leaseEndReport n m reason t)

/-! ### Removal of a master (R10) -/

/-- The lease-end reason of a removal fan-out. -/
def RemovalReason.leaseReason : RemovalReason → LeaseReason
  | .absent => .absent
  | .quarantine => .quarantine

/-- The LINE_CHANGED cause of a removal fan-out. -/
def RemovalReason.cause : RemovalReason → Cause
  | .absent => .absent
  | .quarantine => .quarantine

/-- Removes master m from line n (R10). -/
def removeFromLine (m : MasterId) (r : RemovalReason) (s : State) (n : LineId) : State :=
  match (s.line n).cfg.policy with
  | .shared =>
    if hasBit (s.line n).asserted m.val then lineClaim n r.cause (Line.dropAssertion m) s else s
  | .leased => if (s.line n).owner = some m then endLease n r.leaseReason r.cause s else s
  | .quorum => s
  | .fixed => s

/-- Removes master m from L0 to L15 in ascending order (R10). -/
def removeFromLines (m : MasterId) (r : RemovalReason) (s : State) : State :=
  allLines.foldl (removeFromLine m r) s

/-! ### HOLD (R13, R15) -/

/-- Ends a running timed activation for the HOLD asserted event (R13 step 1). -/
def Line.cancelPulse (l : Line) : Line := if l.pulse.isSome then l.commandReleased else l

/-- Ends every running timed activation (R13 step 1). -/
def cancelPulses (s : State) : State := { s with lines := eachRecord Line.cancelPulse s.lines }

/-- Sets the qualified HOLD level; the qualification measurement is over (R11). -/
def setQualified (h : HoldLevel) (s : State) : State :=
  { s with hold := { s.hold with qualified := h, measuring := none } }

/-- Reports each line whose driven level differs from its level before, in ascending order, with cause
HOLD (R13 step 2, R15 step 1). -/
def recomputeDriven (before : LineId → Level) (s : State) : State :=
  allLines.foldl (fun t n => reportChange n (before n) .hold t) s

/-! ### Feedback (R78 to R81) -/

/-- Enters MISMATCH: FEEDBACK_FAULT for all masters, then FEEDBACK (R80). -/
def enterMismatch (n : LineId) (s : State) : State :=
  let t := setFlagAll .feedbackFault
    (s.updLine n fun l => { l with feedback := .mismatch, settle := none })
  raise (.feedback n .mismatch (s.driven n) (s.input n)) t

/-- A settle deadline reached (R78): the present input level is compared with the present driven level. -/
def settleReached (n : LineId) (s : State) : State :=
  if s.input n = s.driven n then
    s.updLine n fun l => { l with feedback := .matching, settle := none }
  else enterMismatch n s

/-- A change of the input FBKn to a level (R79). -/
def inputChanged (n : LineId) (level : Level) (s : State) : State :=
  let t := { s with fbk := s.fbk.set n.val level n.isLt }
  match (s.line n).feedback with
  | .off => t
  | .settling => t
  | .matching => enterMismatch n t
  | .mismatch =>
    raise (.feedback n .matching (t.driven n) level)
      (t.updLine n fun l => { l with feedback := .matching })

end Sys2Proof.Machine
end

