-- ==== Sys2Proof/Machine/Proposals.lean ====
section
/-! DEFINITION. The Proposal Table (chapter 2): finding, opening and ending entries, vote removal and
cancellation. Carrying an entry is in Machine/Carry.lean. -/

namespace Sys2Proof.Machine

open Sys2Proof

/-- The entry with a subject, if the table holds one (R21: no two entries have the same subject). -/
def State.entryOn (s : State) (sub : Subject) : Option Entry := s.table.find? fun e => e.subject = sub

/-- The entry with an id, if the table holds one. -/
def State.entryById (s : State) (id : Byte) : Option Entry := s.table.find? fun e => e.id = id

/-- The voter count of an entry (R20). -/
def Entry.count (e : Entry) : Nat := masterCount e.voters

/-- The table without the entry of an id; the order of the others is kept (R21). -/
def State.dropEntry (s : State) (id : Byte) : State := s.setTable (s.table.filter fun e => e.id ≠ id)

/-- The table with an entry replaced by a newer version of itself, in its place. -/
def State.putEntry (s : State) (e : Entry) : State :=
  s.setTable (s.table.map fun x => if x.id = e.id then e else x)

/-- The session returns from VOTING to EDITING with a fresh idle deadline (R118). -/
def returnToEditing (s : State) : State :=
  match s.session with
  | .voting o sh rev => s.setSession (.editing o sh rev (s.deadlineIn Config.idleTimeout))
  | _ => s

/-- An entry leaves the table with an outcome: PROPOSAL_ENDED is raised (R51), and an APPLY entry that ends
EXPIRED or WITHDRAWN returns its session to EDITING (R118). -/
def endEntry (e : Entry) (out : EntryOutcome) (s : State) : State :=
  let t := raise (.proposalEnded e.id e.subject e.action out e.voters) (s.dropEntry e.id)
  if e.subject = .config ∧ (out = .expired ∨ out = .withdrawn) then returnToEditing t else t

/-- Removes master m's vote from an entry (R36, R46): the entry ends WITHDRAWN when no voter is left,
returns from READY to OPEN when its count falls below the required count, and otherwise keeps its state. -/
def takeVote (m : MasterId) (e : Entry) (s : State) : State :=
  let rest : Entry := { e with voters := removeBit e.voters m.val }
  if rest.voters = 0#4 then endEntry rest .withdrawn s
  else if e.state = .ready ∧ rest.count < e.required.toNat then
    s.putEntry { rest with state := .voting }
  else s.putEntry rest

/-- Removes master m's vote from one entry of the table, if the entry holds it (R46). -/
def removeVote (m : MasterId) (s : State) (e : Entry) : State :=
  if hasBit e.voters m.val then takeVote m e s else s

/-- Removes master m's vote from every entry that holds it, in table order (R46). -/
def removeVotes (m : MasterId) (s : State) : State := s.table.foldl (removeVote m) s

/-- Cancels the entry on a subject, if there is one (R47, R48). -/
def cancelOn (sub : Subject) (s : State) : State :=
  match s.entryOn sub with
  | none => s
  | some e => endEntry e .cancelled s

/-- The id after an id: 1 follows 255 (R23). -/
def nextIdAfter (id : Byte) : Byte := if id = 255#8 then 1#8 else id + 1#8

/-- The first id, counting upward from c, that no entry holds, within k steps (R23). -/
def freeIdWithin (table : List Entry) : Nat → Byte → Byte
  | 0, c => c
  | k + 1, c => if table.any (fun e => e.id = c) then freeIdWithin table k (nextIdAfter c) else c

/-- The id a new entry takes (R23): found within twelve steps from the next-id counter. -/
def State.freeId (s : State) : Byte := freeIdWithin s.table Config.maxEntries s.nextId

/-- The required count of an entry when it opens (R24). -/
def State.requiredFor (s : State) : Subject → Byte
  | .line n => (s.config.line n).quorum
  | .master _ => s.config.globals.quarantineQuorum
  | .config => s.config.globals.configQuorum
  | .part => s.config.globals.restartQuorum

/-- The entry that a master opens now (R29 step 2, R24). -/
def State.newEntry (s : State) (m : MasterId) (sub : Subject) (act : Action) (dur rev : Option W16) :
    Entry where
  id := s.freeId
  subject := sub
  action := act
  duration := dur
  revision := rev
  opener := m
  voters := onlyBit m.val
  required := s.requiredFor sub
  deadline := s.deadlineIn s.config.globals.voteWindow
  state := .voting

/-- The argument an entry holds: its duration or its revision, 0 when it has neither (R50, R52). -/
def Entry.argument (e : Entry) : W16 :=
  match e.duration, e.revision with
  | some d, _ => d
  | none, some r => r
  | none, none => 0#16

/-- Places a new entry last in the table, moves the next-id counter (R23) and raises PROPOSAL_OPENED
(R29 step 2, R50). -/
def openEntry (e : Entry) (s : State) : State :=
  raise (.proposalOpened e.id e.subject e.action e.argument e.opener e.required e.deadline.span)
    { s with table := s.table ++ [e], nextId := nextIdAfter e.id }

/-- The table holds 12 entries (R29 step 1). -/
def State.tableFull (s : State) : Bool := Config.maxEntries ≤ s.table.length

/-- An entry that HOLD keeps waiting: a LINE entry with action ASSERT or PULSE (R43). -/
def Entry.activates (e : Entry) : Bool :=
  match e.subject, e.action with
  | .line _, .assert => true
  | .line _, .pulse => true
  | _, _ => false

end Sys2Proof.Machine
end

