-- ==== Sys2Proof/Machine/Ports.lean ====
section
/-! DEFINITION. Operations on a port's record that other units claim: disable, enable, and the loss of the
packet in transmission and of the response queue (R165, R181, R188, R189). -/

namespace Sys2Proof.Machine

open Sys2Proof

/-- The packet in transmission is a notice. -/
def Port.sendsNotice (p : Port) : Bool :=
  match p.tx with
  | some (.notice _ _) => true
  | _ => false

/-- Free places less outstanding grant is 8 or more, in HANDSHAKE or UP: a GRANT is owed (R183). -/
def Port.grantOwed (p : Port) : Bool :=
  (p.link = .handshake || p.link = .up) &&
    p.rx.length + p.outstanding + Config.grantSize ≤ Config.bufferPlaces

/-- The port's response queue has a free slot (R132, R146). -/
def Port.slotFree (p : Port) : Bool := p.responses.length < Config.responseSlots

/-- Sets NOTICE_LOST for a port's master when the packet in transmission is a notice (R165). -/
def noticeLostInTransmission (p : PortId) (s : State) : State :=
  if (s.port p).sendsNotice then setFlag p .noticeLost s else s

/-- The port's record in OFF (R172, R188): silent and empty. IDLE sent and the stored-response record are
left as they are. -/
def Port.goOff (p : Port) : Port :=
  { p with
    link := .off, rx := [], outstanding := 0, credit := 0, tx := none, holdoff := none,
    handshake := none, disconnect := none, wire := none, assembly := ⟨.idle, []⟩, responses := [] }

/-- Port disable (R188, R134). -/
def disablePort (p : PortId) (s : State) : State :=
  (noticeLostInTransmission p s).updPort p Port.goOff

/-- The record of a port that enters QUIET from OFF (R189). -/
def Port.startLink (p : Port) : Port :=
  { p with
    link := .quiet, rx := [], outstanding := 0, credit := 0, tx := none, idleSent := false,
    holdoff := some Config.holdoffNs, handshake := none, disconnect := none, wire := none }

/-- Port enable (R189): with an invalid link address the port stays OFF (R172). -/
def enablePort (p : PortId) (s : State) : State :=
  if validAddress s.linkAddress then s.updPort p Port.startLink else s

/-- Switches one port by the old and the new port enable set (R122). -/
def switchPort (old new : PortSet) (s : State) (p : PortId) : State :=
  if hasBit old p.val && !hasBit new p.val then disablePort p s
  else if !hasBit old p.val && hasBit new p.val then enablePort p s
  else s

/-- Switches P0 to P3 in order (R122). -/
def switchPorts (old new : PortSet) (s : State) : State := allMasters.foldl (switchPort old new) s

end Sys2Proof.Machine
end

