-- ==== Sys2Proof/Machine/Registry.lean ====
section
/-! DEFINITION. The Master Registry (chapter 5) and the session ends it claims: renewal and admission,
absence, the removal fan-out, quarantine and reinstatement. -/

namespace Sys2Proof.Machine

open Sys2Proof

/-! ### Session end (R124, R126, R48) -/

/-- Ends the session without an apply: in VOTING the APPLY entry ends CANCELLED (R124, R126, R48). -/
def endSession (s : State) : State :=
  match s.session with
  | .voting _ _ _ => cancelOn .config (s.setSession .none)
  | _ => s.setSession .none

/-- The fan-out's claim on the Configuration Store (R96 step 2). -/
def endSessionOf (m : MasterId) (s : State) : State :=
  if s.session.owner? = some m then endSession s else s

/-! ### The removal fan-out (R96) -/

/-- The removal fan-out for master m: Line Control, then the Configuration Store, then the Proposal Unit. -/
def removalFanOut (m : MasterId) (r : RemovalReason) (s : State) : State :=
  removeVotes m (endSessionOf m (removeFromLines m r s))

/-- Raises MASTER_CHANGED with the master's presence and quarantine mark after the event (R103). -/
def raiseMasterChanged (m : MasterId) (c : MasterChange) (s : State) : State :=
  raise (.masterChanged m c (s.master m).presence (s.master m).quarantined) s

/-! ### Presence (R87 to R92) -/

/-- Admits an ABSENT master (R88). -/
def admitMaster (m : MasterId) (s : State) : State :=
  raiseMasterChanged m .admitted (s.setMaster m { s.master m with presence := .present })

/-- The renewal of an accepted request (R87): admission, presence deadline, last source address. -/
def renew (m : MasterId) (src : Byte) (s : State) : State :=
  let t := if (s.master m).presence = .absent then admitMaster m s else s
  t.setMaster m
    { t.master m with
      deadline := some (t.deadlineIn t.config.globals.presenceTimeout), lastSource := some src }

/-- Clears the subscription mask and empties the notification queue of a master that became ABSENT;
NOTICE_LOST is set when the queue held a notice (R92 step 3). -/
def StatusRecord.onAbsence (r : StatusRecord) : StatusRecord :=
  let t := if r.queue = [] then r else r.setFlag .noticeLost
  { t with mask := 0#6, queue := [] }

/-- A presence deadline reached (R92). -/
def expireMaster (m : MasterId) (s : State) : State :=
  let s1 := s.setMaster m { s.master m with presence := .absent, deadline := none }
  let s2 := removalFanOut m .absent s1
  raiseMasterChanged m .expired (s2.setStat m (s2.stat m).onAbsence)

/-! ### Quarantine (R97, R101) -/

/-- A carried QUARANTINE of master m (R97). -/
def quarantineMaster (m : MasterId) (s : State) : State :=
  let s1 := s.setMaster m { s.master m with quarantined := true }
  raiseMasterChanged m .quarantined (setFlag m .quarantinedEvt (removalFanOut m .quarantine s1))

/-- A carried REINSTATE of master m (R101). -/
def reinstateMaster (m : MasterId) (s : State) : State :=
  raiseMasterChanged m .reinstated (s.setMaster m { s.master m with quarantined := false })

end Sys2Proof.Machine
end

