-- ==== Sys2Proof/Machine/Carry.lean ====
section
/-! DEFINITION. Carrying an entry (R38 to R44): the hand-off of each action, the configuration apply (R119 to
R123) and the commanded restart (R19, R42, R105, R126, R169). -/

namespace Sys2Proof.Machine

open Sys2Proof

/-! ### Configuration apply -/

/-- Resets line n when its configuration part changed (R120): copy, line clear, cancellation. -/
def applyLine (old new : Configuration) (s : State) (n : LineId) : State :=
  if old.line n = new.line n then s
  else
    cancelOn (.line n)
      (lineClear n .config .config (s.driven n) (s.updLine n fun l => { l with cfg := new.line n }))

/-- The set of lines whose configuration part differs between two configurations (R120, R123). -/
def changedLines (old new : Configuration) : BitVec 16 :=
  allLines.foldl (fun set n => if old.line n = new.line n then set else addBit set n.val) 0#16

/-- The apply of a shadow configuration (R119). -/
def applyConfig (shadow : Configuration) (revision : W16) (s : State) : State :=
  let old := s.config
  let s1 : State := { s with generation := s.generation + 1#16, config := shadow }
  let s2 := allLines.foldl (applyLine old shadow) s1
  let s3 := switchPorts old.globals.ports shadow.globals.ports s2
  let s4 := raise (.configApplied s3.generation revision (changedLines old shadow)
    (old.globals ≠ shadow.globals) shadow.globals.ports) s3
  s4.setSession .none

/-! ### Commanded restart -/

/-- A master record after a commanded restart (R105). -/
def Master.onRestart (r : Master) : Master :=
  { r with presence := .absent, deadline := none, quarantined := false }

/-- A status record after a commanded restart (R169): the sequence counter is kept. -/
def StatusRecord.onRestart (r : StatusRecord) : StatusRecord :=
  { r with flags := restartedAlone, mask := 0#6, queue := [] }

/-- One line clear of the commanded restart (R19). -/
def restartLine (s : State) (n : LineId) : State := lineClear n .restart .restart (s.driven n) s

/-- The commanded restart, taken whole across the units (R19, R42, R49, R105, R126, R169). -/
def commandedRestart (s : State) : State :=
  let t := allLines.foldl restartLine s
  { t with
    table := [], nextId := 1#8, session := .none,
    masters := eachRecord Master.onRestart t.masters,
    status := eachRecord StatusRecord.onRestart t.status,
    lastRestart := .commanded }

/-! ### Carrying -/

/-- Hands an entry's action to the unit that owns its subject (R38 step 1, R39 to R42). -/
def handOff (e : Entry) (s : State) : State :=
  match e.subject, e.action with
  | .line n, .assert => lineClaim n .proposal Line.commandActive s
  | .line n, .release => lineClaim n .proposal Line.commandReleased s
  | .line n, .pulse => lineClaim n .proposal (Line.startPulse s.count (e.duration.getD 0#16)) s
  | .master m, .quarantine => quarantineMaster m s
  | .master m, .reinstate => reinstateMaster m s
  | .config, .apply =>
    match s.session with
    | .voting _ shadow revision => applyConfig shadow revision s
    | _ => s
  | .part, .restart => commandedRestart s
  | _, _ => s

/-- Carries an entry (R38): the hand-off, then the entry leaves the table CARRIED, but for RESTART, which
has emptied the table (R42). -/
def carry (e : Entry) (s : State) : State :=
  if e.action = .restart then handOff e s else endEntry e .carried (handOff e s)

/-- An entry that has a new voter, or has just opened: it is carried, becomes READY, or stays OPEN
(R29 step 3, R30, R31, R43). Gives the status of the response. -/
def countVotes (e : Entry) (s : State) : State × Status :=
  if e.state = .ready then (s, .ready)
  else if e.count < e.required.toNat then (s, .voted)
  else if s.held && e.activates then (s.putEntry { e with state := .ready }, .ready)
  else (carry e s, .carried)

/-- Carries the entry of an id if it is READY (R44). -/
def carryReady (s : State) (id : Byte) : State :=
  match s.entryById id with
  | some e => if e.state = .ready then carry e s else s
  | none => s

/-- Carries every READY entry in table order (R44). -/
def carryAllReady (s : State) : State := (s.table.map fun e => e.id).foldl carryReady s

/-! ### The HOLD events -/

/-- The HOLD asserted event (R13). -/
def holdAssertedEvent (s : State) : State :=
  let s1 := setQualified .asserted (cancelPulses s)
  let s2 := recomputeDriven s.driven s1
  raise (.holdChanged .asserted) (setFlagAll .holdSeen s2)

/-- The HOLD released event (R15). -/
def holdReleasedEvent (s : State) : State :=
  let s1 := recomputeDriven s.driven (setQualified .released s)
  raise (.holdChanged .released) (carryAllReady s1)

end Sys2Proof.Machine
end

