-- ==== Sys2Proof/Machine/LineRequests.lean ====
section
/-! DEFINITION. What the Line Control Unit answers to the line reads (R16, R17) and to the six direct requests
(chapter 3). Each gives the state after the claim and the answer. -/

namespace Sys2Proof.Machine

open Sys2Proof

/-- A refusal without a result: the request has no effect (spec/00 section 4.2). -/
def refuse (st : Status) (s : State) : State × Answer := (s, ⟨st, []⟩)

/-! ### Results -/

/-- The line result, 9 bytes (R54, chapter 10 shared blocks). -/
def lineResult (s : State) (n : LineId) : List Byte :=
  let l := s.line n
  [lineByte n, l.commanded.byte, levelByte (s.driven n), setByte l.asserted, ownerByte l.owner] ++
    wordBytes (remainingOf l.lease s.count) ++ wordBytes (remainingOf l.pulse s.count)

/-- The byte READ_LINES gives for a line: bit 0 driven level, bit 1 commanded state, bits 3 to 2 feedback
state, bits 5 to 4 policy. -/
def lineSummary (s : State) (n : LineId) : Byte :=
  let l := s.line n
  levelByte (s.driven n) ||| (l.commanded.byte <<< 1) ||| (l.feedback.byte <<< 2) |||
    (l.cfg.policy.byte <<< 4)

/-- The READ_LINES result, 17 bytes (R16). -/
def readLinesResult (s : State) : List Byte :=
  s.hold.qualified.byte :: allLines.map (lineSummary s)

/-- The id of the open entry whose subject is line n, 0 when there is none (R17). -/
def entryIdOn (s : State) (n : LineId) : Byte :=
  match s.entryOn (.line n) with
  | none => 0#8
  | some e => e.id

/-- The READ_LINE result, 22 bytes (R17). -/
def readLineResult (s : State) (n : LineId) : List Byte :=
  let l := s.line n
  [lineByte n] ++ l.cfg.bytes ++
    [l.commanded.byte, levelByte (s.driven n), setByte l.asserted, ownerByte l.owner] ++
    wordBytes (remainingOf l.lease s.count) ++ [boolByte l.pulse.isSome] ++
    wordBytes (remainingOf l.pulse s.count) ++
    [l.feedback.byte, levelByte (s.input n), entryIdOn s n]

/-- A direct request taken: DONE with the line result after the claim (R54). -/
def lineDone (n : LineId) (s : State) : State × Answer := (s, ⟨.done, lineResult s n⟩)

/-- NOT_OWNER with the present owner or none (R54). -/
def notOwner (n : LineId) (s : State) : State × Answer :=
  (s, ⟨.notOwner, [ownerByte (s.line n).owner]⟩)

/-- BUSY with the present owner and its remaining lease time (R54). -/
def leaseBusy (n : LineId) (s : State) : State × Answer :=
  (s, ⟨.busy, ownerByte (s.line n).owner :: wordBytes (remainingOf (s.line n).lease s.count)⟩)

/-! ### Reads -/

/-- READ_LINES (R16). -/
def reqReadLines (s : State) : State × Answer := (s, ⟨.done, readLinesResult s⟩)

/-- READ_LINE (R17). -/
def reqReadLine (n : LineId) (s : State) : State × Answer := (s, ⟨.done, readLineResult s n⟩)

/-! ### Direct requests, checked in the order of R53 -/

/-- A lease duration lies from 10 to the line's lease maximum (R53 check 5). -/
def leaseDurationOk (l : Line) (d : W16) : Bool :=
  10 ≤ d.toNat && d.toNat ≤ l.cfg.leaseMax.toNat

/-- A pulse duration lies from 1 to the line's pulse maximum (R53 check 5, R26 check 3). -/
def pulseDurationOk (l : Line) (d : W16) : Bool :=
  1 ≤ d.toNat && d.toNat ≤ l.cfg.pulseMax.toNat

/-- ASSERT_LINE (R55, R62). -/
def reqAssertLine (m : MasterId) (n : LineId) (s : State) : State × Answer :=
  if (s.master m).quarantined then refuse .quarantined s
  else
    match (s.line n).cfg.policy with
    | .shared =>
      if s.held then refuse .held s
      else lineDone n (lineClaim n .direct (Line.addAssertion m) s)
    | .leased =>
      if (s.line n).owner ≠ some m then notOwner n s
      else if s.held then refuse .held s
      else lineDone n (lineClaim n .direct Line.commandActive s)
    | .quorum => refuse .policy s
    | .fixed => refuse .policy s

/-- RELEASE_LINE (R56, R62). -/
def reqReleaseLine (m : MasterId) (n : LineId) (s : State) : State × Answer :=
  if (s.master m).quarantined then refuse .quarantined s
  else
    match (s.line n).cfg.policy with
    | .shared => lineDone n (lineClaim n .direct (Line.dropAssertion m) s)
    | .leased =>
      if (s.line n).owner ≠ some m then notOwner n s
      else lineDone n (lineClaim n .direct Line.commandReleased s)
    | .quorum => refuse .policy s
    | .fixed => refuse .policy s

/-- CLAIM_LINE (R60). -/
def reqClaimLine (m : MasterId) (n : LineId) (d : W16) (s : State) : State × Answer :=
  if (s.master m).quarantined then refuse .quarantined s
  else if (s.line n).cfg.policy ≠ .leased then refuse .policy s
  else if (s.line n).owner ≠ none ∧ (s.line n).owner ≠ some m then leaseBusy n s
  else if !leaseDurationOk (s.line n) d then refuse .range s
  else lineDone n (s.updLine n (Line.takeLease m s.count d))

/-- RENEW_LEASE (R61). -/
def reqRenewLease (m : MasterId) (n : LineId) (d : W16) (s : State) : State × Answer :=
  if (s.master m).quarantined then refuse .quarantined s
  else if (s.line n).cfg.policy ≠ .leased then refuse .policy s
  else if (s.line n).owner ≠ some m then notOwner n s
  else if !leaseDurationOk (s.line n) d then refuse .range s
  else lineDone n (s.updLine n (Line.takeLease m s.count d))

/-- RELINQUISH_LINE (R64). -/
def reqRelinquishLine (m : MasterId) (n : LineId) (s : State) : State × Answer :=
  if (s.master m).quarantined then refuse .quarantined s
  else if (s.line n).cfg.policy ≠ .leased then refuse .policy s
  else if (s.line n).owner ≠ some m then notOwner n s
  else lineDone n (endLease n .relinquished .direct s)

/-- PULSE_LINE (R63). -/
def reqPulseLine (m : MasterId) (n : LineId) (d : W16) (s : State) : State × Answer :=
  if (s.master m).quarantined then refuse .quarantined s
  else if (s.line n).cfg.policy ≠ .leased then refuse .policy s
  else if (s.line n).cfg.pulseMax = 0#16 then refuse .policy s
  else if (s.line n).owner ≠ some m then notOwner n s
  else if !pulseDurationOk (s.line n) d then refuse .range s
  else if s.held then refuse .held s
  else lineDone n (lineClaim n .direct (Line.startPulse s.count d) s)

end Sys2Proof.Machine
end

