-- ==== Sys2Proof/Machine/ProposalRequests.lean ====
section
/-! DEFINITION. What the Proposal Unit answers to PROPOSE, WITHDRAW and READ_PROPOSALS (chapter 2). -/

namespace Sys2Proof.Machine

open Sys2Proof

/-! ### PROPOSE -/

/-- The result of VOTED, READY, ALREADY_VOTED and CARRIED: id, voter count, required count (R34). -/
def voteResult (e : Entry) : List Byte := [e.id, byteOf e.count, e.required]

/-- The entry of a proposal asks for the same thing: the same action, and for PULSE the same duration; the
revision of an APPLY has been matched by R28 (R30). -/
def Entry.sameProposal (e : Entry) (act : Action) (arg : W16) : Bool :=
  e.action = act && (act ≠ .pulse || e.duration = some arg)

/-- The checks on a LINE subject (R26): the first that fails decides. -/
def checkLineProposal (s : State) (n : LineId) (act : Action) (arg : W16) : Option Status :=
  let l := s.line n
  if l.cfg.policy ≠ .quorum then some .policy
  else if act = .pulse ∧ l.cfg.pulseMax = 0#16 then some .policy
  else if act = .pulse ∧ !pulseDurationOk l arg then some .range
  else none

/-- The checks on a MASTER subject (R27): the first that fails decides. -/
def checkMasterProposal (s : State) (requester target : MasterId) (act : Action) : Option Status :=
  if act = .quarantine ∧ target = requester then some .notEligible
  else if act = .quarantine ∧ (s.master target).quarantined then some .state
  else if act = .reinstate ∧ !(s.master target).quarantined then some .state
  else none

/-- Opens an entry and counts its first vote (R29 steps 2 to 4). -/
def openAndCount (m : MasterId) (sub : Subject) (act : Action) (dur rev : Option W16) (s : State) :
    State × Answer :=
  let e := s.newEntry m sub act dur rev
  let r := countVotes e (openEntry e s)
  (r.1, ⟨r.2, voteResult e⟩)

/-- The duration an entry keeps: present for PULSE only (R20, R22). -/
def keptDuration (act : Action) (arg : W16) : Option W16 := if act = .pulse then some arg else none

/-- A PROPOSE whose subject no entry has (R29). -/
def proposeFresh (m : MasterId) (sub : Subject) (act : Action) (arg : W16) (s : State) :
    State × Answer :=
  if s.tableFull then refuse .tableFull s
  else openAndCount m sub act (keptDuration act arg) none s

/-- A vote for an entry (R30, R31). -/
def proposeVote (m : MasterId) (e : Entry) (s : State) : State × Answer :=
  if hasBit e.voters m.val then (s, ⟨.alreadyVoted, voteResult e⟩)
  else
    let voted : Entry := { e with voters := addBit e.voters m.val }
    let r := countVotes voted (s.putEntry voted)
    (r.1, ⟨r.2, voteResult voted⟩)

/-- A different proposal on an entry's subject: supersession by its sole voter (R32), otherwise CONFLICT
(R33). -/
def proposeOther (m : MasterId) (e : Entry) (act : Action) (arg : W16) (s : State) : State × Answer :=
  if e.voters = onlyBit m.val then
    openAndCount m e.subject act (keptDuration act arg) none (endEntry e .superseded s)
  else (s, ⟨.conflict, [e.id, e.action.byte] ++ wordBytes (e.duration.getD 0#16)⟩)

/-- A PROPOSE that has passed its checks reaches the table (R29 to R33). -/
def proposeToTable (m : MasterId) (sub : Subject) (act : Action) (arg : W16) (s : State) :
    State × Answer :=
  match s.entryOn sub with
  | none => proposeFresh m sub act arg s
  | some e => if e.sameProposal act arg then proposeVote m e s else proposeOther m e act arg s

/-- A PROPOSE on CONFIG (R28): it votes for the APPLY entry and never opens one. -/
def proposeConfig (m : MasterId) (act : Action) (arg : W16) (s : State) : State × Answer :=
  match s.entryOn .config with
  | none => refuse .noSession s
  | some e =>
    if e.revision ≠ some arg then (s, ⟨.stale, e.id :: wordBytes (e.revision.getD 0#16)⟩)
    else if e.sameProposal act arg then proposeVote m e s
    else proposeOther m e act arg s

/-- PROPOSE (R25 to R34). -/
def reqPropose (m : MasterId) (sub : Subject) (act : Action) (arg : W16) (s : State) : State × Answer :=
  if (s.master m).quarantined then refuse .quarantined s
  else
    match sub with
    | .line n =>
      match checkLineProposal s n act arg with
      | some st => refuse st s
      | none => proposeToTable m sub act arg s
    | .master t =>
      match checkMasterProposal s m t act with
      | some st => refuse st s
      | none => proposeToTable m sub act arg s
    | .config => proposeConfig m act arg s
    | .part => proposeToTable m sub act arg s

/-! ### WITHDRAW (R36) -/

/-- WITHDRAW: DONE gives the id and the voter count after the removal. -/
def reqWithdraw (m : MasterId) (id : Byte) (s : State) : State × Answer :=
  if (s.master m).quarantined then refuse .quarantined s
  else
    match s.entryById id with
    | none => refuse .notFound s
    | some e =>
      if hasBit e.voters m.val then
        (takeVote m e s, ⟨.done, [id, byteOf (masterCount (removeBit e.voters m.val))]⟩)
      else refuse .notFound s

/-! ### READ_PROPOSALS (R52) -/

/-- An entry summary, 10 bytes (chapter 10, READ_PROPOSALS result). -/
def entrySummary (now : W32) (e : Entry) : List Byte :=
  [e.id, (e.state.byte <<< 7) ||| e.subject.kindByte, e.subject.indexByte, e.action.byte] ++
    wordBytes e.argument ++
    [(masterByte e.opener <<< 4) ||| setByte e.voters, e.required] ++
    wordBytes (e.deadline.remaining now)

/-- READ_PROPOSALS from a start position. -/
def reqReadProposals (start : Byte) (s : State) : State × Answer :=
  let rest := s.table.drop start.toNat
  let given := rest.take Config.summariesPerRead
  (s, ⟨.done, [byteOf given.length, byteOf (rest.length - given.length)] ++
    (given.map (entrySummary s.count)).flatten⟩)

end Sys2Proof.Machine
end

