-- ==== Sys2Proof/Machine/ConfigRequests.lean ====
section
/-! DEFINITION. What the Configuration Store answers to the session requests and the configuration reads
(chapter 6). -/

namespace Sys2Proof.Machine

open Sys2Proof

/-! ### Fields of the configuration writes (R113, R114, R196) -/

/-- The level a byte encodes. -/
def levelOf (b : Byte) : Level := if b = 0#8 then .low else .high

/-- The policy a byte encodes. -/
def policyOf (b : Byte) : Policy :=
  if b = 0#8 then .shared else if b = 1#8 then .leased else if b = 2#8 then .quorum else .fixed

/-- A value lies from lo to hi. -/
def within (lo hi : Nat) (x : Nat) : Bool := lo ≤ x && x ≤ hi

/-- The value of a line field, by its number, lies in its range (R113, R196). -/
def lineFieldOk (b : LineBlock) : Nat → Bool
  | 0 => within 0 3 b.policy.toNat
  | 1 => within 1 4 b.quorum.toNat
  | 2 => within 0 1 b.safe.toNat
  | 3 => within 0 60000 b.pulseMax.toNat
  | 4 => within 10 60000 b.leaseMax.toNat
  | 5 => within 0 1 b.feedback.toNat
  | 6 => within 1 255 b.settle.toNat
  | _ => true

/-- The value of a global parameter, by its number, lies in its range (R106, R114, R196). -/
def globalFieldOk (b : GlobalBlock) : Nat → Bool
  | 0 => within 100 60000 b.presenceTimeout.toNat
  | 1 => within 100 60000 b.voteWindow.toNat
  | 2 => within 1 3 b.quarantineQuorum.toNat
  | 3 => within 1 4 b.restartQuorum.toNat
  | 4 => within 1 4 b.configQuorum.toNat
  | 5 => within 1 15 b.ports.toNat
  | _ => true

/-- The first selected field whose value is outside its range, in field-number order (R113, R196). -/
def firstRefused (fields : List Nat) (select : Byte) (ok : Nat → Bool) : Option Nat :=
  fields.find? fun i => hasBit select i && !ok i

/-- The line fields' numbers, policy 0 to settle time 6. -/
def lineFields : List Nat := [0, 1, 2, 3, 4, 5, 6]

/-- The global parameters' numbers, presence timeout 0 to port enable set 5. -/
def globalFields : List Nat := [0, 1, 2, 3, 4, 5]

/-- Each selected field of a line part set to its value (R113 step 1). -/
def writeLineFields (select : Byte) (b : LineBlock) (c : LineConfig) : LineConfig where
  policy := if hasBit select 0 then policyOf b.policy else c.policy
  quorum := if hasBit select 1 then b.quorum else c.quorum
  safe := if hasBit select 2 then levelOf b.safe else c.safe
  pulseMax := if hasBit select 3 then b.pulseMax else c.pulseMax
  leaseMax := if hasBit select 4 then b.leaseMax else c.leaseMax
  feedback := if hasBit select 5 then b.feedback != 0#8 else c.feedback
  settle := if hasBit select 6 then b.settle else c.settle

/-- Each selected global parameter set to its value (R114). -/
def writeGlobalFields (select : Byte) (b : GlobalBlock) (g : GlobalConfig) : GlobalConfig where
  presenceTimeout := if hasBit select 0 then b.presenceTimeout else g.presenceTimeout
  voteWindow := if hasBit select 1 then b.voteWindow else g.voteWindow
  quarantineQuorum := if hasBit select 2 then b.quarantineQuorum else g.quarantineQuorum
  restartQuorum := if hasBit select 3 then b.restartQuorum else g.restartQuorum
  configQuorum := if hasBit select 4 then b.configQuorum else g.configQuorum
  ports := if hasBit select 5 then b.ports.setWidth 4 else g.ports

/-! ### Session requests, decided as R111 orders -/

/-- Renews the idle deadline when the requester owns a session in EDITING (R110). -/
def touchSession (m : MasterId) (s : State) : State :=
  match s.session with
  | .editing o sh rev _ =>
    if o = m then s.setSession (.editing o sh rev (s.deadlineIn Config.idleTimeout)) else s
  | _ => s

/-- OPEN_CONFIG (R112). -/
def reqOpenConfig (m : MasterId) (s : State) : State × Answer :=
  if (s.master m).quarantined then refuse .quarantined s
  else
    match s.session with
    | .none =>
      (s.setSession (.editing m s.config 0#16 (s.deadlineIn Config.idleTimeout)),
        ⟨.done, wordBytes s.generation⟩)
    | .editing o _ _ _ => (touchSession m s, ⟨.busy, [masterByte o, s.session.stateByte]⟩)
    | .voting o _ _ => (s, ⟨.busy, [masterByte o, s.session.stateByte]⟩)

/-- A configuration write, checked and taken (R113, R114, R115): `bad` is the first refused field, `write`
sets the selected fields in the shadow. -/
def takeWrite (m : MasterId) (bad : Option Nat) (write : Configuration → Configuration) (s : State) :
    State × Answer :=
  if (s.master m).quarantined then refuse .quarantined s
  else
    match s.session with
    | .none => refuse .noSession s
    | .editing o sh rev _ =>
      if o ≠ m then refuse .noSession s
      else
        match bad with
        | some i => (touchSession m s, ⟨.range, [byteOf i]⟩)
        | none =>
          if rev = 0xFFFF#16 then (touchSession m s, ⟨.range, [0xFF#8]⟩)
          else
            (s.setSession (.editing o (write sh) (rev + 1#16) (s.deadlineIn Config.idleTimeout)),
              ⟨.done, wordBytes (rev + 1#16)⟩)
    | .voting o _ _ => if o = m then refuse .frozen s else refuse .noSession s

/-- WRITE_LINE_CONFIG (R113). -/
def reqWriteLineConfig (m : MasterId) (n : LineId) (select : Byte) (b : LineBlock) (s : State) :
    State × Answer :=
  takeWrite m (firstRefused lineFields select (lineFieldOk b))
    (fun sh => sh.setLine n (writeLineFields select b (sh.line n))) s

/-- WRITE_GLOBAL_CONFIG (R114). -/
def reqWriteGlobalConfig (m : MasterId) (select : Byte) (b : GlobalBlock) (s : State) :
    State × Answer :=
  takeWrite m (firstRefused globalFields select (globalFieldOk b))
    (fun sh => { sh with globals := writeGlobalFields select b sh.globals }) s

/-- COMMIT_CONFIG (R116). -/
def reqCommitConfig (m : MasterId) (s : State) : State × Answer :=
  if (s.master m).quarantined then refuse .quarantined s
  else
    match s.session with
    | .none => refuse .noSession s
    | .editing o sh rev _ =>
      if o ≠ m then refuse .noSession s
      else if s.tableFull then (touchSession m s, ⟨.tableFull, []⟩)
      else
        let r := openAndCount m .config .apply none (some rev) (s.setSession (.voting o sh rev))
        (r.1, ⟨r.2.status, r.2.result ++ wordBytes rev⟩)
    | .voting o _ _ => if o = m then refuse .frozen s else refuse .noSession s

/-- CLOSE_CONFIG (R124). -/
def reqCloseConfig (m : MasterId) (s : State) : State × Answer :=
  if (s.master m).quarantined then refuse .quarantined s
  else if s.session.owner? = some m then (endSession s, ⟨.done, []⟩)
  else refuse .noSession s

/-! ### Reads -/

/-- READ_CONFIG (R127): the target, the generation and the block from the current configuration. -/
def reqReadConfig (t : Target) (s : State) : State × Answer :=
  (s, ⟨.done, t.byte :: wordBytes s.generation ++ s.config.block t⟩)

/-- A configuration target differs in any field between two configurations (R128). -/
def targetDiffers (a b : Configuration) : Target → Bool
  | .line n => a.line n ≠ b.line n
  | .globals => a.globals ≠ b.globals

/-- The READ_SHADOW result (R128): session state, owner, revision, target, differs, block. -/
def shadowResult (s : State) (o : MasterId) (sh : Configuration) (rev : W16) (t : Target) : List Byte :=
  [s.session.stateByte, masterByte o] ++ wordBytes rev ++
    [t.byte, boolByte (targetDiffers sh s.config t)] ++ sh.block t

/-- READ_SHADOW (R128): from the owner in EDITING it renews the idle deadline (R110). -/
def reqReadShadow (m : MasterId) (t : Target) (s : State) : State × Answer :=
  match s.session with
  | .none => refuse .noSession s
  | .editing o sh rev _ => (touchSession m s, ⟨.done, shadowResult s o sh rev t⟩)
  | .voting o sh rev => (s, ⟨.done, shadowResult s o sh rev t⟩)

end Sys2Proof.Machine
end

