-- ==== Sys2Proof/Machine/StatusRequests.lean ====
section
/-! DEFINITION. READ_STATUS and SUBSCRIBE (chapter 8), HEARTBEAT (R90) and RESYNC (R149). -/

namespace Sys2Proof.Machine

open Sys2Proof

/-- Byte 7 of the READ_STATUS result: bit m the presence of Mm, bit 4+m its quarantine mark. -/
def mastersByte (s : State) : Byte :=
  allMasters.foldl (fun b m =>
    let b1 := if (s.master m).presence = .present then addBit b m.val else b
    if (s.master m).quarantined then addBit b1 (4 + m.val) else b1) 0#8

/-- The READ_STATUS result, 10 bytes (R157). -/
def statusResult (s : State) (m : MasterId) : List Byte :=
  [s.hold.qualified.byte, s.lastRestart.byte] ++ wordBytes s.generation ++
    [s.session.stateByte, ownerByte s.session.owner?, byteOf s.table.length, mastersByte s] ++
    flagBytes (s.stat m).flags

/-- READ_STATUS (R157) clears exactly the flags it reports: all that are set (R158). -/
def reqReadStatus (m : MasterId) (s : State) : State × Answer :=
  (s.setStat m { s.stat m with flags := 0#11 }, ⟨.done, statusResult s m⟩)

/-- SUBSCRIBE (R159): the mask is replaced, and reported with bits 7 to 6 as 0 (R194). -/
def reqSubscribe (m : MasterId) (mask : ClassSet) (s : State) : State × Answer :=
  (s.setStat m { s.stat m with mask := mask }, ⟨.done, [mask.setWidth 8]⟩)

/-- HEARTBEAT (R90): admitted, quarantine mark, presence timeout. `admitted` says whether this request's
renewal changed its master from ABSENT to PRESENT. -/
def reqHeartbeat (m : MasterId) (admitted : Bool) (s : State) : State × Answer :=
  (s, ⟨.done, [boolByte admitted, boolByte (s.master m).quarantined] ++
    wordBytes s.config.globals.presenceTimeout⟩)

/-- What RESYNC does to the requester's status record (R149 step 2, R166). -/
def StatusRecord.onResync (r : StatusRecord) : StatusRecord :=
  { r with flags := 0#11, queue := [], seq := 0#8 }

/-- RESYNC (R149 steps 1 to 3): the stored response is invalid, the flags are recorded and cleared, the
queue is emptied and the sequence counter set to 0. -/
def reqResync (m : MasterId) (s : State) : State × Answer :=
  let t := s.updPort m fun p => { p with stored := { p.stored with valid := false } }
  (t.setStat m (s.stat m).onResync, ⟨.done, flagBytes (s.stat m).flags⟩)

end Sys2Proof.Machine
end

