-- ==== Sys2Proof/Machine/Operands.lean ====
section
/-! DEFINITION. Decoding a request (R140, R193 to R195): the request code, the parameter length, the
encodable set of each parameter field; and the parameter bytes of each request (section 10.3). -/

namespace Sys2Proof.Machine

open Sys2Proof

/-! ### Encodable sets (R140, R195) -/

/-- A line number: 0 to 15. -/
def lineOf (b : Byte) : Option LineId := if h : b.toNat < 16 then some ⟨b.toNat, h⟩ else none

/-- A master number: 0 to 3. -/
def masterOf (b : Byte) : Option MasterId := if h : b.toNat < 4 then some ⟨b.toNat, h⟩ else none

/-- A configuration target: a line, or 0x10 for the global parameters. -/
def targetOf (b : Byte) : Option Target :=
  match lineOf b with
  | some n => some (.line n)
  | none => if b = 0x10#8 then some .globals else none

/-- A subject from its kind and index; the index is not read for CONFIG and PART (R22, R194). -/
def subjectOf (kind index : Byte) : Option Subject :=
  if kind = 0#8 then (lineOf index).map Subject.line
  else if kind = 1#8 then (masterOf index).map Subject.master
  else if kind = 2#8 then some .config
  else if kind = 3#8 then some .part
  else none

/-- An action in one of the pairings of R22 with the subject kind. -/
def actionOf (sub : Subject) (b : Byte) : Option Action :=
  match sub with
  | .line _ =>
    if b = 1#8 then some .assert else if b = 2#8 then some .release
    else if b = 3#8 then some .pulse else none
  | .master _ =>
    if b = 4#8 then some .quarantine else if b = 5#8 then some .reinstate else none
  | .config => if b = 6#8 then some .apply else none
  | .part => if b = 7#8 then some .restart else none

/-! ### Decoding -/

/-- A request on a line: RANGE for a line number outside its set. -/
def onLine (b : Byte) (f : LineId → Request) : Except Status Request :=
  match lineOf b with
  | some n => .ok (f n)
  | none => .error .range

/-- A request on a configuration target: RANGE outside its set. -/
def onTarget (b : Byte) (f : Target → Request) : Except Status Request :=
  match targetOf b with
  | some t => .ok (f t)
  | none => .error .range

/-- A PROPOSE from its fields, tested kind, index, action (R195). -/
def decodePropose (kind index action : Byte) (arg : W16) : Except Status Request :=
  match subjectOf kind index with
  | none => .error .range
  | some sub =>
    match actionOf sub action with
    | none => .error .range
    | some act => .ok (.propose sub act arg)

/-- The parameter fields of a request code, in the order of their bytes (R140 check 3). Parameters of
another length do not reach it (R140 check 2); they are FORMAT here too. -/
def decodeFields : RequestCode → List Byte → Except Status Request
  | .readStatus, [] => .ok .readStatus
  | .readLines, [] => .ok .readLines
  | .readLine, [n] => onLine n .readLine
  | .readProposals, [start] => .ok (.readProposals start)
  | .readConfig, [t] => onTarget t .readConfig
  | .readShadow, [t] => onTarget t .readShadow
  | .heartbeat, [] => .ok .heartbeat
  | .subscribe, [mask] => .ok (.subscribe (mask.setWidth 6))
  | .resync, [] => .ok .resync
  | .assertLine, [n] => onLine n .assertLine
  | .releaseLine, [n] => onLine n .releaseLine
  | .claimLine, [n, d1, d0] => onLine n fun l => .claimLine l (bytesWord d1 d0)
  | .renewLease, [n, d1, d0] => onLine n fun l => .renewLease l (bytesWord d1 d0)
  | .relinquishLine, [n] => onLine n .relinquishLine
  | .pulseLine, [n, d1, d0] => onLine n fun l => .pulseLine l (bytesWord d1 d0)
  | .propose, [k, i, a, g1, g0] => decodePropose k i a (bytesWord g1 g0)
  | .withdraw, [id] => .ok (.withdraw id)
  | .openConfig, [] => .ok .openConfig
  | .writeLineConfig, [n, sel, pol, quo, safe, p1, p0, l1, l0, fb, st] =>
    onLine n fun l => .writeLineConfig l sel
      ⟨pol, quo, safe, bytesWord p1 p0, bytesWord l1 l0, fb, st⟩
  | .writeGlobalConfig, [sel, t1, t0, w1, w0, qq, rq, cq, ports] =>
    .ok (.writeGlobalConfig sel ⟨bytesWord t1 t0, bytesWord w1 w0, qq, rq, cq, ports⟩)
  | .commitConfig, [] => .ok .commitConfig
  | .closeConfig, [] => .ok .closeConfig
  | _, _ => .error .format

/-- Decoding (R140): the code, then the parameter length, then the fields. -/
def decodeRequest (code : Byte) (params : List Byte) : Except Status Request :=
  match requestCodeOf code with
  | none => .error .code
  | some c => if params.length ≠ c.paramLength then .error .format else decodeFields c params

/-! ### Parameter bytes (section 10.3) -/

/-- The parameters of CLAIM_LINE, RENEW_LEASE and PULSE_LINE. -/
def durationParams (line : Byte) (d : W16) : List Byte := line :: wordBytes d

/-- The parameters of PROPOSE. -/
def proposeParams (kind index action : Byte) (arg : W16) : List Byte :=
  [kind, index, action] ++ wordBytes arg

/-- The parameters of WRITE_LINE_CONFIG. -/
def lineConfigParams (line select : Byte) (b : LineBlock) : List Byte :=
  [line, select, b.policy, b.quorum, b.safe] ++ wordBytes b.pulseMax ++ wordBytes b.leaseMax ++
    [b.feedback, b.settle]

/-- The parameters of WRITE_GLOBAL_CONFIG. -/
def globalConfigParams (select : Byte) (b : GlobalBlock) : List Byte :=
  [select] ++ wordBytes b.presenceTimeout ++ wordBytes b.voteWindow ++
    [b.quarantineQuorum, b.restartQuorum, b.configQuorum, b.ports]

/-! ### Writing a request (Table 10-1, section 10.3) -/

/-- The request code of a request. -/
def Request.code : Request → RequestCode
  | .readStatus => .readStatus
  | .readLines => .readLines
  | .readLine _ => .readLine
  | .readProposals _ => .readProposals
  | .readConfig _ => .readConfig
  | .readShadow _ => .readShadow
  | .heartbeat => .heartbeat
  | .subscribe _ => .subscribe
  | .resync => .resync
  | .assertLine _ => .assertLine
  | .releaseLine _ => .releaseLine
  | .claimLine _ _ => .claimLine
  | .renewLease _ _ => .renewLease
  | .relinquishLine _ => .relinquishLine
  | .pulseLine _ _ => .pulseLine
  | .propose _ _ _ => .propose
  | .withdraw _ => .withdraw
  | .openConfig => .openConfig
  | .writeLineConfig _ _ _ => .writeLineConfig
  | .writeGlobalConfig _ _ => .writeGlobalConfig
  | .commitConfig => .commitConfig
  | .closeConfig => .closeConfig

/-- The parameter bytes of a request. -/
def Request.params : Request → List Byte
  | .readLine n => [lineByte n]
  | .readProposals start => [start]
  | .readConfig t => [t.byte]
  | .readShadow t => [t.byte]
  | .subscribe mask => [mask.setWidth 8]
  | .assertLine n => [lineByte n]
  | .releaseLine n => [lineByte n]
  | .claimLine n d => durationParams (lineByte n) d
  | .renewLease n d => durationParams (lineByte n) d
  | .relinquishLine n => [lineByte n]
  | .pulseLine n d => durationParams (lineByte n) d
  | .propose sub act arg => proposeParams sub.kindByte sub.indexByte act.byte arg
  | .withdraw id => [id]
  | .writeLineConfig n sel b => lineConfigParams (lineByte n) sel b
  | .writeGlobalConfig sel b => globalConfigParams sel b
  | .readStatus | .readLines | .heartbeat | .resync => []
  | .openConfig | .commitConfig | .closeConfig => []

end Sys2Proof.Machine
end

