-- ==== Sys2Proof/Machine/Transactions.lean ====
section
/-! DEFINITION. The Transaction Unit of a port (chapter 7): processing a complete packet, the duplicate test,
dispatch, the response, packet assembly and the drain of the receive buffer. -/

namespace Sys2Proof.Machine

open Sys2Proof

/-! ### Dispatch (R141) -/

/-- Hands a decoded request of master m to its owning unit. `admitted` is what HEARTBEAT reports (R90). -/
def dispatch (m : MasterId) (admitted : Bool) (q : Request) (s : State) : State × Answer :=
  match q with
  | .readStatus => reqReadStatus m s
  | .readLines => reqReadLines s
  | .readLine n => reqReadLine n s
  | .readProposals start => reqReadProposals start s
  | .readConfig t => reqReadConfig t s
  | .readShadow t => reqReadShadow m t s
  | .heartbeat => reqHeartbeat m admitted s
  | .subscribe mask => reqSubscribe m mask s
  | .resync => reqResync m s
  | .assertLine n => reqAssertLine m n s
  | .releaseLine n => reqReleaseLine m n s
  | .claimLine n d => reqClaimLine m n d s
  | .renewLease n d => reqRenewLease m n d s
  | .relinquishLine n => reqRelinquishLine m n s
  | .pulseLine n d => reqPulseLine m n d s
  | .propose sub act arg => reqPropose m sub act arg s
  | .withdraw id => reqWithdraw m id s
  | .openConfig => reqOpenConfig m s
  | .writeLineConfig n sel b => reqWriteLineConfig m n sel b s
  | .writeGlobalConfig sel b => reqWriteGlobalConfig m sel b s
  | .commitConfig => reqCommitConfig m s
  | .closeConfig => reqCloseConfig m s

/-- Decoding and dispatch: a request refused at decode reaches no owning unit (R140, R141). -/
def execute (m : MasterId) (admitted : Bool) (q : RawRequest) (s : State) : State × Answer :=
  match decodeRequest q.code q.params with
  | .error st => refuse st s
  | .ok r => dispatch m admitted r s

/-! ### The response (R142, R143) -/

/-- Places a response last in a port's response queue (R143 step 2, R139). -/
def Port.queueResponse (p : Port) (bytes : List Byte) : Port :=
  { p with responses := p.responses ++ [bytes] }

/-- Stores a response under its request's tag and check byte, and queues it unless the port is OFF
(R143). -/
def Port.takeResponse (p : Port) (q : RawRequest) (bytes : List Byte) : Port :=
  let r := { p with stored := ⟨true, q.tag, q.check, bytes⟩ }
  if p.link = .off then r else r.queueResponse bytes

/-- Builds, stores and queues the response to a request (R142, R143). -/
def respond (p : PortId) (q : RawRequest) (a : Answer) (s : State) : State :=
  s.updPort p fun r => r.takeResponse q (responsePacket s.linkAddress q a)

/-! ### Processing a complete packet (R135) -/

/-- The request is a duplicate: the stored-response record is valid and holds its tag and check
byte (R139). -/
def Port.isDuplicate (p : Port) (q : RawRequest) : Bool :=
  p.stored.valid && p.stored.tag = q.tag && p.stored.check = q.check

/-- An accepted request: renewal, duplicate test and replay, or execution and response (R135 steps 3
to 7). -/
def acceptRequest (p : PortId) (q : RawRequest) (s : State) : State :=
  let t := renew p q.source s
  if (t.port p).isDuplicate q then t.updPort p fun r => r.queueResponse r.stored.response
  else
    let r := execute p ((s.master p).presence = .absent) q t
    respond p q r.2 r.1

/-- The fields of a packet of at least five bytes: destination, then the request (section 10.1). The check
byte is the last byte. -/
def parsePacket (bytes : List Byte) : Option (Byte × RawRequest) :=
  match bytes with
  | dest :: src :: tag :: code :: b :: rest =>
    some (dest, ⟨src, tag, code, (b :: rest).dropLast, (b :: rest).getLast (by simp)⟩)
  | _ => none

/-- A packet's check byte is the CRC-8 over every byte before it (R136). -/
def checkByteGood (bytes : List Byte) : Bool := bytes.getLast? = some (crc8 bytes.dropLast)

/-- Processes a complete packet of port p (R135): check byte, destination, acceptance. -/
def processPacket (p : PortId) (bytes : List Byte) (s : State) : State :=
  match parsePacket bytes with
  | none => setFlag p .malformed s
  | some (dest, q) =>
    if !checkByteGood bytes then setFlag p .badCheck s
    else if dest ≠ s.linkAddress then setFlag p .wrongAddress s
    else acceptRequest p q s

/-! ### Packet assembly (R130 to R132) -/

/-- Replaces the assembly record of a port. -/
def State.setAssembly (s : State) (p : PortId) (a : Assembly) : State :=
  s.updPort p fun r => { r with assembly := a }

/-- A complete packet on a port: processed at once when the response queue has a free slot, after which the
record is IDLE; otherwise the record keeps it, WAITING (R132, R143). -/
def completePacket (p : PortId) (bytes : List Byte) (s : State) : State :=
  if (s.port p).slotFree then (processPacket p bytes s).setAssembly p ⟨.idle, []⟩
  else s.setAssembly p ⟨.waiting, bytes⟩

/-- Discards what the assembly record of a port holds, with a flag in the flags of its master (R133). -/
def discardPacket (p : PortId) (f : Flag) (s : State) : State :=
  setFlag p f (s.setAssembly p ⟨.idle, []⟩)

/-- A DATA character taken from the receive buffer (R131). -/
def takeData (p : PortId) (b : Byte) (s : State) : State :=
  let a := (s.port p).assembly
  match a.state with
  | .idle => s.setAssembly p ⟨.gathering, [b]⟩
  | .gathering =>
    if a.bytes.length < Config.maxPacket then s.setAssembly p ⟨.gathering, a.bytes ++ [b]⟩
    else s.setAssembly p ⟨.overlong, a.bytes⟩
  | .overlong => s
  | .waiting => s

/-- An END taken from the receive buffer (R131, R132). -/
def takeEnd (p : PortId) (s : State) : State :=
  let a := (s.port p).assembly
  match a.state with
  | .idle => s
  | .gathering =>
    if a.bytes.length < Config.minPacket then discardPacket p .malformed s
    else completePacket p a.bytes s
  | .overlong => discardPacket p .malformed s
  | .waiting => s

/-- A FAIL taken from the receive buffer (R131). -/
def takeFail (p : PortId) (s : State) : State :=
  match (s.port p).assembly.state with
  | .idle => discardPacket p .truncated s
  | .gathering => discardPacket p .truncated s
  | .overlong => discardPacket p .truncated s
  | .waiting => s

/-- A character taken from the receive buffer acts on the assembly record (R131). -/
def takeChar (p : PortId) (c : RxChar) (s : State) : State :=
  match c with
  | .data b => takeData p b s
  | .endChar => takeEnd p s
  | .failChar => takeFail p s

/-- The drain of the receive buffer (R182): characters are taken from its head one after another, until it
is empty or a complete packet waits. The number bounds the characters taken. -/
def drain (p : PortId) : Nat → State → State
  | 0, s => s
  | k + 1, s =>
    if (s.port p).assembly.state = .waiting then s
    else
      match (s.port p).rx with
      | [] => s
      | c :: rest => drain p k (takeChar p c (s.updPort p fun r => { r with rx := rest }))

/-- Drains all that the receive buffer holds (R182). -/
def drainAll (p : PortId) (s : State) : State := drain p (s.port p).rx.length s

/-- Processes the packet that waits in the assembly record, once a response slot is free, and resumes the
drain (R147, R182). -/
def processWaiting (p : PortId) (s : State) : State :=
  if (s.port p).assembly.state = .waiting && (s.port p).slotFree then
    drainAll p (completePacket p (s.port p).assembly.bytes s)
  else s

/-! ### A request command -/

/-- The event of a request's row: the complete packet of that request at port p's Transaction Unit (R135).
It takes place while RSTN is released, when the port is not OFF (R172) and its assembly record holds no
other packet (R130); with both response slots taken the packet waits (R132). Log entry 4. -/
def requestEvent (p : PortId) (src tag : Byte) (code : RequestCode) (params : List Byte) (s : State) :
    State :=
  if s.rstn = .high ∧ (s.port p).link ≠ .off ∧ (s.port p).assembly.state = .idle then
    completePacket p (requestPacket s.linkAddress src tag code.byte params) s
  else s

end Sys2Proof.Machine
end

