-- ==== Sys2Proof/Machine/Links.lean ====
section
/-! DEFINITION. The Link Ports (chapter 9): errors and leaving UP, received characters, the transmitter, link
deadlines. -/

namespace Sys2Proof.Machine

open Sys2Proof

/-! ### Errors (R179 to R181, R134) -/

/-- The receive buffer up to and including its last END or FAIL (R180 step 4). -/
def trimBuffer : List RxChar → List RxChar
  | [] => []
  | c :: rest =>
    match trimBuffer rest, c with
    | [], .data _ => []
    | kept, _ => c :: kept

/-- The port's record on entering QUIET by an error (R180 steps 1 to 4): counts 0, holdoff running, the
opening of a cut-off packet trimmed from the buffer. -/
def Port.toQuiet (p : Port) : Port :=
  { p with
    link := .quiet, rx := trimBuffer p.rx, outstanding := 0, credit := 0, idleSent := false,
    holdoff := some Config.holdoffNs, handshake := none, disconnect := none, wire := none }

/-- The assembly record holds a partial packet (R134). -/
def Assembly.partialPacket (a : Assembly) : Bool := a.state = .gathering || a.state = .overlong

/-- A port enters QUIET from HANDSHAKE or UP because of an error (R180, R134): TRUNCATED is set when
characters are trimmed or a partial packet is discarded. -/
def enterQuiet (p : PortId) (s : State) : State :=
  let r := s.port p
  let s1 := s.updPort p Port.toQuiet
  let s2 := if (trimBuffer r.rx).length < r.rx.length then setFlag p .truncated s1 else s1
  if r.assembly.partialPacket then discardPacket p .truncated s2 else s2

/-- The port's record when a parity error takes LISTEN back to QUIET: step 3 of R180 alone. -/
def Port.backToQuiet (p : Port) : Port :=
  { p with
    link := .quiet, idleSent := false, holdoff := some Config.holdoffNs, handshake := none,
    disconnect := none, wire := none }

/-- What a port loses when it leaves UP (R181): the packet in transmission and the response queue. -/
def loseTransmission (p : PortId) (s : State) : State :=
  (noticeLostInTransmission p s).updPort p fun r => { r with tx := none, responses := [] }

/-- A port still in UP enters QUIET by R180. One that a packet processed on the way has taken out of UP (it
carried an apply that disables the port, R188) stays as that left it (log entry 6). -/
def quietFromUp (p : PortId) (s : State) : State :=
  match (s.port p).link with
  | .up => enterQuiet p s
  | _ => s

/-- An error event at a port (R179): nothing in OFF and QUIET; QUIET from LISTEN and HANDSHAKE by R180. From UP,
in the order of R181: LINK_ERROR and the losses, which free both response slots; the waiting packet is
processed and the characters behind it are drained (R148, R182); the port then enters QUIET by R180. Log entry 6
says what of this order is deduced. -/
def linkError (p : PortId) (s : State) : State :=
  match (s.port p).link with
  | .off => s
  | .quiet => s
  | .listen => s.updPort p Port.backToQuiet
  | .handshake => enterQuiet p s
  | .up => quietFromUp p (processWaiting p (loseTransmission p (setFlag p .linkError s)))

/-! ### Received characters (R173 to R178) -/

/-- Restarts the disconnect deadline (R178). -/
def Port.heard (p : Port) : Port := { p with disconnect := some Config.disconnectNs }

/-- A DATA, END or FAIL is received: ignored in OFF, QUIET and LISTEN, a sequence error in HANDSHAKE, a credit
error in UP with no grant outstanding, otherwise placed and handed on (R174, R175, R177, R182). -/
def receiveChar (p : PortId) (c : RxChar) (s : State) : State :=
  match (s.port p).link with
  | .off => s
  | .quiet => s
  | .listen => s
  | .handshake => linkError p s
  | .up =>
    if (s.port p).outstanding = 0 then linkError p s
    else
      drainAll p (s.updPort p fun r =>
        { r.heard with rx := r.rx ++ [c], outstanding := r.outstanding - 1 })

/-- A GRANT is received: it brings the link UP in HANDSHAKE (R176) and raises the credit in UP (R177). -/
def receiveGrantChar (p : PortId) (s : State) : State :=
  match (s.port p).link with
  | .off => s
  | .quiet => s
  | .listen => s
  | .handshake =>
    s.updPort p fun r => { r.heard with link := .up, credit := Config.grantSize, handshake := none }
  | .up =>
    if (s.port p).credit + Config.grantSize ≤ Config.creditLimit then
      s.updPort p fun r => { r.heard with credit := r.credit + Config.grantSize }
    else linkError p s

/-- An IDLE is received: LISTEN goes to HANDSHAKE (R175); in HANDSHAKE and UP the disconnect deadline is
restarted. -/
def receiveIdleChar (p : PortId) (s : State) : State :=
  match (s.port p).link with
  | .off => s
  | .quiet => s
  | .listen =>
    s.updPort p fun r => { r.heard with link := .handshake, handshake := some Config.handshakeNs }
  | .handshake => s.updPort p Port.heard
  | .up => s.updPort p Port.heard

/-! ### Link deadlines -/

/-- The holdoff deadline of a port (R173). -/
def holdoffReached (p : PortId) (s : State) : State :=
  match (s.port p).link with
  | .quiet => s.updPort p fun r => { r with link := .listen, holdoff := none, idleSent := false }
  | _ => s

/-- The handshake deadline of a port (R175, R179). -/
def handshakeReached (p : PortId) (s : State) : State :=
  match (s.port p).link with
  | .handshake => linkError p s
  | _ => s

/-- The disconnect deadline of a port (R178, R179). -/
def disconnectReached (p : PortId) (s : State) : State :=
  match (s.port p).link with
  | .handshake => linkError p s
  | .up => linkError p s
  | _ => s

/-! ### The transmitter (R185 to R187) -/

/-- The bytes of the packet in transmission: those of the front response, or of the notice. -/
def Port.txBytes (p : Port) : Transmission → List Byte
  | .response _ => p.responses.headD []
  | .notice bytes _ => bytes

/-- The number of characters sent of a packet in transmission. -/
def Transmission.sent : Transmission → Nat
  | .response k => k
  | .notice _ k => k

/-- One more character sent. -/
def Transmission.advance : Transmission → Transmission
  | .response k => .response (k + 1)
  | .notice b k => .notice b (k + 1)

/-- Sends IDLE (R174, R185). -/
def Port.sendIdle (p : Port) : Port := { p with wire := some .idle, idleSent := true }

/-- Sends an owed GRANT (R183). -/
def Port.sendGrant (p : Port) : Port :=
  { p with wire := some .grant, outstanding := p.outstanding + Config.grantSize }

/-- Sends a DATA character: it uses one credit (R184). -/
def Port.sendData (p : Port) (b : Byte) (t : Transmission) : Port :=
  { p with wire := some (.data b), credit := p.credit - 1, tx := some t.advance }

/-- Sends the END of the packet in transmission: it uses one credit, the packet becomes absent, and a
response leaves its slot (R184, R187). -/
def Port.sendEnd (p : Port) (t : Transmission) : Port :=
  let r := { p with wire := some .endChar, credit := p.credit - 1, tx := none }
  match t with
  | .response _ => { r with responses := p.responses.tail }
  | .notice _ _ => r

/-- The next character of a packet in transmission: a DATA for each of its bytes, then END (R187). -/
def Port.sendNext (p : Port) (t : Transmission) : Port :=
  match (p.txBytes t)[t.sent]? with
  | some b => p.sendData b t
  | none => p.sendEnd t

/-- A notice leaves the queue of its master and takes its sequence number (R164). -/
def StatusRecord.beginNotice (r : StatusRecord) (rest : List Notice) : StatusRecord :=
  { r with queue := rest, seq := r.seq + 1#8 }

/-- Begins a packet and sends its first character: the front response, or else the front notice, or IDLE when
neither waits (R185 steps 3 and 4, R186, R164). -/
def beginPacket (p : PortId) (s : State) : Host.Outcome State Fault Refusal :=
  match (s.port p).responses with
  | _ :: _ => .next (s.updPort p fun r => r.sendNext (.response 0))
  | [] =>
    match (s.stat p).queue with
    | [] => .next (s.updPort p Port.sendIdle)
    | nt :: rest =>
      match (s.master p).lastSource with
      | none => .fault .noticeWithoutAddress
      | some dest =>
        let bytes := notificationPacket dest s.linkAddress (s.stat p).seq nt
        .next ((s.setStat p ((s.stat p).beginNotice rest)).updPort p
          fun r => r.sendNext (.notice bytes 0))

/-- The transmitter of a port sends its next character, chosen by the port's state (R185). -/
def transmit (p : PortId) (s : State) : Host.Outcome State Fault Refusal :=
  let r := s.port p
  match r.link with
  | .off => .next s
  | .quiet => .next s
  | .listen => .next (s.updPort p Port.sendIdle)
  | .handshake =>
    if r.grantOwed && r.idleSent then .next (s.updPort p Port.sendGrant)
    else .next (s.updPort p Port.sendIdle)
  | .up =>
    if r.grantOwed then .next (s.updPort p Port.sendGrant)
    else if r.credit = 0 then .next (s.updPort p Port.sendIdle)
    else
      match r.tx with
      | some t => .next (s.updPort p fun x => x.sendNext t)
      | none => beginPacket p s

/-- The END of the packet in transmission is the transmitter's next character: the link is UP, no GRANT is
owed, there is credit, and every byte has been sent (R185, R187). -/
def Port.endDue (p : Port) : Option Transmission :=
  if p.link = .up && !p.grantOwed && p.credit ≠ 0 then
    match p.tx with
    | some t => if (p.txBytes t).length ≤ t.sent then some t else none
    | none => none
  else none

/-- The END of a packet is sent (R187). -/
def endSent (p : PortId) (s : State) : State :=
  match (s.port p).endDue with
  | some t => s.updPort p fun r => r.sendEnd t
  | none => s

end Sys2Proof.Machine
end

