-- ==== Sys2Proof/Machine/ResetEvents.lean ====
section
/-! DEFINITION. The meanings of RSTN_ASSERTED, RSTN_RELEASED and MILLISECOND_COUNT_ADVANCE, and the guard under
which the other commands act. -/

namespace Sys2Proof.Machine

open Sys2Proof

/-- A command other than the pin commands and the time base acts only while RSTN is released: while it is
asserted the part is in reset, its outputs are LOW and its ports silent and deaf (R18, R190). -/
def whenRunning (f : State → State) (s : State) : State :=
  match s.rstn with
  | .low => s
  | .high => f s

/-- A line record from the assertion of RSTN on (R18, R75): released, with nothing held; the configuration
part and the feedback fields take their values at the release. -/
def Line.onReset (l : Line) : Line :=
  { l with commanded := .released, asserted := 0#4, owner := none, lease := none, pulse := none }

/-- The assertion of RSTN (spec/00 section 4.6, R18, R152, R168, R190; log entry 5): every block takes the
initial state that needs no sampling, and every port is silent and ignores what it receives. -/
def assertReset (s : State) : State :=
  { s with
    rstn := .low,
    hold := { s.hold with measuring := none },
    lines := eachRecord Line.onReset s.lines,
    table := [], nextId := 1#8,
    masters := Vector.replicate 4 resetMaster,
    session := .none,
    status := Vector.replicate 4 resetStatus,
    lastRestart := .pin,
    ports := Vector.replicate 4 silentPort }

/-- RSTN_ASSERTED. -/
def execRstnAsserted (s : State) : Host.Outcome State Fault Refusal := .next (assertReset s)

/-- RSTN_RELEASED completes the pin reset with the levels it samples (R1, R12, R18, R49, R104, R107, R109,
R152, R168, R172, R190). -/
def execRstnReleased (cfgsel : Level) (adrs : Byte) (holdPin : Level) (fbkPins : W16) (s : State) :
    Host.Outcome State Fault Refusal :=
  .next { State.afterPinReset cfgsel adrs holdPin fbkPins with pending := s.pending }

/-- MILLISECOND_COUNT_ADVANCE (R1): by one, and on to 0 after 4294967295. -/
def execMillisecondCountAdvance (s : State) : Host.Outcome State Fault Refusal :=
  .next { s with count := s.count + 1#32 }

end Sys2Proof.Machine
end

