-- ==== Sys2Proof/Machine/PinEvents.lean ====
section
/-! DEFINITION. The meanings of HOLD_INPUT_CHANGE, HOLD_ASSERTED, HOLD_RELEASED and FEEDBACK_INPUT_CHANGE. -/

namespace Sys2Proof.Machine

open Sys2Proof

/-- A change of the raw HOLD input (R11): the 1 ms measurement starts anew while the raw level is opposite
the qualified level, and is over when the disturbance has returned. -/
def holdInputEvent (level : Level) (s : State) : State :=
  { s with
    hold := { s.hold with
      raw := level,
      measuring := if sampledHold level = s.hold.qualified then none else some Config.holdUs } }

/-- HOLD_INPUT_CHANGE to a level. A level the input has already is no change. While RSTN is asserted the pin
moves and nothing is measured (R12). -/
def execHoldInputChange (level : Level) (s : State) : Host.Outcome State Fault Refusal :=
  if level = s.hold.raw then .next s
  else
    match s.rstn with
    | .low => .next { s with hold := { s.hold with raw := level } }
    | .high => .next (holdInputEvent level s)

/-- HOLD_ASSERTED (R13): the event when the raw input stands asserted and the qualified level is released;
otherwise it is not due (R11, log entry 3). -/
def execHoldAsserted (s : State) : Host.Outcome State Fault Refusal :=
  .next (whenRunning
    (fun s => if s.hold.raw = .high ∧ s.hold.qualified = .released then holdAssertedEvent s else s) s)

/-- HOLD_RELEASED (R15): the event when the raw input stands released and the qualified level is asserted;
otherwise it is not due (R11, log entry 3). -/
def execHoldReleased (s : State) : Host.Outcome State Fault Refusal :=
  .next (whenRunning
    (fun s => if s.hold.raw = .low ∧ s.hold.qualified = .asserted then holdReleasedEvent s else s) s)

/-- FEEDBACK_INPUT_CHANGE of FBKn to a level (R79). A level the input has already is no change. While RSTN
is asserted the pin moves and no event is taken (R84). -/
def execFeedbackInputChange (n : LineId) (level : Level) (s : State) :
    Host.Outcome State Fault Refusal :=
  if level = s.input n then .next s
  else
    match s.rstn with
    | .low => .next { s with fbk := s.fbk.set n.val level n.isLt }
    | .high => .next (inputChanged n level s)

end Sys2Proof.Machine
end

