-- ==== Sys2Proof/Machine/Deadlines.lean ====
section
/-! DEFINITION. The meanings of the deadline commands of the time base. Each takes its event when the deadline is
present and reached by R1; a deadline that is absent or not reached is not due, and the command then has no
effect (log entry 3). -/

namespace Sys2Proof.Machine

open Sys2Proof

/-- A deadline is present and reached. -/
def State.due (s : State) (d : Option Deadline) : Bool :=
  match d with
  | none => false
  | some x => x.reached s.count

/-- PULSE_DEADLINE of line n (R72). -/
def execPulseDeadline (n : LineId) (s : State) : Host.Outcome State Fault Refusal :=
  .next (whenRunning
    (fun s => if s.due (s.line n).pulse then lineClaim n .pulseEnd Line.commandReleased s else s) s)

/-- LEASE_DEADLINE of line n (R67). -/
def execLeaseDeadline (n : LineId) (s : State) : Host.Outcome State Fault Refusal :=
  .next (whenRunning
    (fun s => if s.due (s.line n).lease then endLease n .expired .leaseEnd s else s) s)

/-- SETTLE_DEADLINE of line n (R78). -/
def execSettleDeadline (n : LineId) (s : State) : Host.Outcome State Fault Refusal :=
  .next (whenRunning (fun s => if s.due (s.line n).settle then settleReached n s else s) s)

/-- PRESENCE_DEADLINE of master m (R92). -/
def execPresenceDeadline (m : MasterId) (s : State) : Host.Outcome State Fault Refusal :=
  .next (whenRunning (fun s => if s.due (s.master m).deadline then expireMaster m s else s) s)

/-- The deadline event of the entry with an id (R45): it ends EXPIRED, whether OPEN or READY. -/
def entryDeadlineEvent (id : Byte) (s : State) : State :=
  match s.entryById id with
  | none => s
  | some e => if e.deadline.reached s.count then endEntry e .expired s else s

/-- ENTRY_DEADLINE of the entry with an id (R45). -/
def execEntryDeadline (id : Byte) (s : State) : Host.Outcome State Fault Refusal :=
  .next (whenRunning (entryDeadlineEvent id) s)

/-- The idle deadline event of the session (R125). -/
def idleDeadlineEvent (s : State) : State :=
  match s.session with
  | .editing _ _ _ idle => if idle.reached s.count then s.setSession .none else s
  | _ => s

/-- IDLE_DEADLINE (R125). -/
def execIdleDeadline (s : State) : Host.Outcome State Fault Refusal :=
  .next (whenRunning idleDeadlineEvent s)

end Sys2Proof.Machine
end

