-- ==== Sys2Proof/Machine/LinkEvents.lean ====
section
/-! DEFINITION. The meanings of the link and transaction commands of a port (chapters 7 and 9). -/

namespace Sys2Proof.Machine

open Sys2Proof

/-- HOLDOFF_DEADLINE (R173). -/
def execHoldoffDeadline (p : PortId) (s : State) : Host.Outcome State Fault Refusal :=
  .next (whenRunning (holdoffReached p) s)

/-- HANDSHAKE_TIMEOUT (R175). -/
def execHandshakeTimeout (p : PortId) (s : State) : Host.Outcome State Fault Refusal :=
  .next (whenRunning (handshakeReached p) s)

/-- DISCONNECT_DEADLINE (R178). -/
def execDisconnectDeadline (p : PortId) (s : State) : Host.Outcome State Fault Refusal :=
  .next (whenRunning (disconnectReached p) s)

/-- RECEIVE_DATA (R177). -/
def execReceiveData (p : PortId) (b : Byte) (s : State) : Host.Outcome State Fault Refusal :=
  .next (whenRunning (receiveChar p (.data b)) s)

/-- RECEIVE_END (R132, R177). -/
def execReceiveEnd (p : PortId) (s : State) : Host.Outcome State Fault Refusal :=
  .next (whenRunning (receiveChar p .endChar) s)

/-- RECEIVE_FAIL (R131, R177). -/
def execReceiveFail (p : PortId) (s : State) : Host.Outcome State Fault Refusal :=
  .next (whenRunning (receiveChar p .failChar) s)

/-- RECEIVE_GRANT (R176, R177). -/
def execReceiveGrant (p : PortId) (s : State) : Host.Outcome State Fault Refusal :=
  .next (whenRunning (receiveGrantChar p) s)

/-- RECEIVE_IDLE (R175). -/
def execReceiveIdle (p : PortId) (s : State) : Host.Outcome State Fault Refusal :=
  .next (whenRunning (receiveIdleChar p) s)

/-- PARITY_ERROR (R179): in OFF and QUIET characters are not checked (R170). -/
def execParityError (p : PortId) (s : State) : Host.Outcome State Fault Refusal :=
  .next (whenRunning (linkError p) s)

/-- TRANSMIT_CHARACTER (R185). -/
def execTransmitCharacter (p : PortId) (s : State) : Host.Outcome State Fault Refusal :=
  match s.rstn with
  | .low => .next s
  | .high => transmit p s

/-- PACKET_END_SENT (R187): the event when the END is the transmitter's next character; otherwise it is not
due (log entry 3). -/
def execPacketEndSent (p : PortId) (s : State) : Host.Outcome State Fault Refusal :=
  .next (whenRunning (endSent p) s)

/-- PROCESS_WAITING_PACKET (R147): the event when a packet waits and a slot is free; otherwise it is not due
(log entry 3). -/
def execProcessWaitingPacket (p : PortId) (s : State) : Host.Outcome State Fault Refusal :=
  .next (whenRunning (processWaiting p) s)

end Sys2Proof.Machine
end

