-- ==== Sys2Proof/Machine/Requests.lean ====
section
/-! DEFINITION. The meanings of the twenty-two request rows. Each is the event of R135 for the complete packet of
that request on port p, whose destination is the part's address and whose check byte is good (`requestEvent`);
what the request does is given by its owning unit's definition (`dispatch`). -/

namespace Sys2Proof.Machine

open Sys2Proof

/-- READ_STATUS (R157). -/
def execReadStatus (p : PortId) (src tag : Byte) (s : State) :
    Host.Outcome State Fault Refusal :=
  .next (requestEvent p src tag .readStatus [] s)

/-- READ_LINES (R16). -/
def execReadLines (p : PortId) (src tag : Byte) (s : State) :
    Host.Outcome State Fault Refusal :=
  .next (requestEvent p src tag .readLines [] s)

/-- READ_LINE (R17). -/
def execReadLine (p : PortId) (src tag : Byte) (line : Byte) (s : State) :
    Host.Outcome State Fault Refusal :=
  .next (requestEvent p src tag .readLine [line] s)

/-- READ_PROPOSALS (R52). -/
def execReadProposals (p : PortId) (src tag : Byte) (start : Byte) (s : State) :
    Host.Outcome State Fault Refusal :=
  .next (requestEvent p src tag .readProposals [start] s)

/-- READ_CONFIG (R127). -/
def execReadConfig (p : PortId) (src tag : Byte) (target : Byte) (s : State) :
    Host.Outcome State Fault Refusal :=
  .next (requestEvent p src tag .readConfig [target] s)

/-- READ_SHADOW (R128). -/
def execReadShadow (p : PortId) (src tag : Byte) (target : Byte) (s : State) :
    Host.Outcome State Fault Refusal :=
  .next (requestEvent p src tag .readShadow [target] s)

/-- HEARTBEAT (R90). -/
def execHeartbeat (p : PortId) (src tag : Byte) (s : State) :
    Host.Outcome State Fault Refusal :=
  .next (requestEvent p src tag .heartbeat [] s)

/-- SUBSCRIBE (R159). -/
def execSubscribe (p : PortId) (src tag : Byte) (mask : Byte) (s : State) :
    Host.Outcome State Fault Refusal :=
  .next (requestEvent p src tag .subscribe [mask] s)

/-- RESYNC (R149). -/
def execResync (p : PortId) (src tag : Byte) (s : State) :
    Host.Outcome State Fault Refusal :=
  .next (requestEvent p src tag .resync [] s)

/-- ASSERT_LINE (R55, R62). -/
def execAssertLine (p : PortId) (src tag : Byte) (line : Byte) (s : State) :
    Host.Outcome State Fault Refusal :=
  .next (requestEvent p src tag .assertLine [line] s)

/-- RELEASE_LINE (R56, R62). -/
def execReleaseLine (p : PortId) (src tag : Byte) (line : Byte) (s : State) :
    Host.Outcome State Fault Refusal :=
  .next (requestEvent p src tag .releaseLine [line] s)

/-- CLAIM_LINE (R60). -/
def execClaimLine (p : PortId) (src tag : Byte) (line : Byte) (d : W16) (s : State) :
    Host.Outcome State Fault Refusal :=
  .next (requestEvent p src tag .claimLine (durationParams line d) s)

/-- RENEW_LEASE (R61). -/
def execRenewLease (p : PortId) (src tag : Byte) (line : Byte) (d : W16) (s : State) :
    Host.Outcome State Fault Refusal :=
  .next (requestEvent p src tag .renewLease (durationParams line d) s)

/-- RELINQUISH_LINE (R64). -/
def execRelinquishLine (p : PortId) (src tag : Byte) (line : Byte) (s : State) :
    Host.Outcome State Fault Refusal :=
  .next (requestEvent p src tag .relinquishLine [line] s)

/-- PULSE_LINE (R63). -/
def execPulseLine (p : PortId) (src tag : Byte) (line : Byte) (d : W16) (s : State) :
    Host.Outcome State Fault Refusal :=
  .next (requestEvent p src tag .pulseLine (durationParams line d) s)

/-- PROPOSE (R25 to R34). -/
def execPropose (p : PortId) (src tag : Byte) (kind index action : Byte) (arg : W16) (s : State) :
    Host.Outcome State Fault Refusal :=
  .next (requestEvent p src tag .propose (proposeParams kind index action arg) s)

/-- WITHDRAW (R36). -/
def execWithdraw (p : PortId) (src tag : Byte) (id : Byte) (s : State) :
    Host.Outcome State Fault Refusal :=
  .next (requestEvent p src tag .withdraw [id] s)

/-- OPEN_CONFIG (R112). -/
def execOpenConfig (p : PortId) (src tag : Byte) (s : State) :
    Host.Outcome State Fault Refusal :=
  .next (requestEvent p src tag .openConfig [] s)

/-- WRITE_LINE_CONFIG (R113). -/
def execWriteLineConfig (p : PortId) (src tag : Byte) (line select : Byte) (b : LineBlock) (s : State) :
    Host.Outcome State Fault Refusal :=
  .next (requestEvent p src tag .writeLineConfig (lineConfigParams line select b) s)

/-- WRITE_GLOBAL_CONFIG (R114). -/
def execWriteGlobalConfig (p : PortId) (src tag : Byte) (select : Byte) (b : GlobalBlock) (s : State) :
    Host.Outcome State Fault Refusal :=
  .next (requestEvent p src tag .writeGlobalConfig (globalConfigParams select b) s)

/-- COMMIT_CONFIG (R116). -/
def execCommitConfig (p : PortId) (src tag : Byte) (s : State) :
    Host.Outcome State Fault Refusal :=
  .next (requestEvent p src tag .commitConfig [] s)

/-- CLOSE_CONFIG (R124). -/
def execCloseConfig (p : PortId) (src tag : Byte) (s : State) :
    Host.Outcome State Fault Refusal :=
  .next (requestEvent p src tag .closeConfig [] s)

end Sys2Proof.Machine
end

