-- ==== Sys2Proof/Machine/Dispatch.lean ====
section
/-! DEFINITION. The meaning of each command: one arm for each row of spec/opcode_table.json. -/

namespace Sys2Proof.Machine

open Sys2Proof

def exec (i : Instr) (s : State) : Host.Outcome State Fault Refusal :=
  match i with
  -- pins and the HOLD conditioner
  | .rstnAsserted => Sys2Proof.Machine.execRstnAsserted s
  | .rstnReleased cfgsel adrs holdPin fbkPins => Sys2Proof.Machine.execRstnReleased cfgsel adrs holdPin fbkPins s
  | .holdInputChange level => Sys2Proof.Machine.execHoldInputChange level s
  | .holdAsserted => Sys2Proof.Machine.execHoldAsserted s
  | .holdReleased => Sys2Proof.Machine.execHoldReleased s
  | .feedbackInputChange n level => Sys2Proof.Machine.execFeedbackInputChange n level s
  -- deadlines of the time base
  | .pulseDeadline n => Sys2Proof.Machine.execPulseDeadline n s
  | .leaseDeadline n => Sys2Proof.Machine.execLeaseDeadline n s
  | .settleDeadline n => Sys2Proof.Machine.execSettleDeadline n s
  | .presenceDeadline m => Sys2Proof.Machine.execPresenceDeadline m s
  | .entryDeadline id => Sys2Proof.Machine.execEntryDeadline id s
  | .idleDeadline => Sys2Proof.Machine.execIdleDeadline s
  -- link deadlines, characters, the transmitter
  | .holdoffDeadline p => Sys2Proof.Machine.execHoldoffDeadline p s
  | .handshakeTimeout p => Sys2Proof.Machine.execHandshakeTimeout p s
  | .disconnectDeadline p => Sys2Proof.Machine.execDisconnectDeadline p s
  | .receiveData p b => Sys2Proof.Machine.execReceiveData p b s
  | .receiveEnd p => Sys2Proof.Machine.execReceiveEnd p s
  | .receiveFail p => Sys2Proof.Machine.execReceiveFail p s
  | .receiveGrant p => Sys2Proof.Machine.execReceiveGrant p s
  | .receiveIdle p => Sys2Proof.Machine.execReceiveIdle p s
  | .parityError p => Sys2Proof.Machine.execParityError p s
  | .transmitCharacter p => Sys2Proof.Machine.execTransmitCharacter p s
  | .packetEndSent p => Sys2Proof.Machine.execPacketEndSent p s
  | .processWaitingPacket p => Sys2Proof.Machine.execProcessWaitingPacket p s
  -- requests
  | .readStatus p src tag => Sys2Proof.Machine.execReadStatus p src tag s
  | .readLines p src tag => Sys2Proof.Machine.execReadLines p src tag s
  | .readLine p src tag line => Sys2Proof.Machine.execReadLine p src tag line s
  | .readProposals p src tag start => Sys2Proof.Machine.execReadProposals p src tag start s
  | .readConfig p src tag target => Sys2Proof.Machine.execReadConfig p src tag target s
  | .readShadow p src tag target => Sys2Proof.Machine.execReadShadow p src tag target s
  | .heartbeat p src tag => Sys2Proof.Machine.execHeartbeat p src tag s
  | .subscribe p src tag mask => Sys2Proof.Machine.execSubscribe p src tag mask s
  | .resync p src tag => Sys2Proof.Machine.execResync p src tag s
  | .assertLine p src tag line => Sys2Proof.Machine.execAssertLine p src tag line s
  | .releaseLine p src tag line => Sys2Proof.Machine.execReleaseLine p src tag line s
  | .claimLine p src tag line duration => Sys2Proof.Machine.execClaimLine p src tag line duration s
  | .renewLease p src tag line duration => Sys2Proof.Machine.execRenewLease p src tag line duration s
  | .relinquishLine p src tag line => Sys2Proof.Machine.execRelinquishLine p src tag line s
  | .pulseLine p src tag line duration => Sys2Proof.Machine.execPulseLine p src tag line duration s
  | .propose p src tag kind index action argument => Sys2Proof.Machine.execPropose p src tag kind index action argument s
  | .withdraw p src tag id => Sys2Proof.Machine.execWithdraw p src tag id s
  | .openConfig p src tag => Sys2Proof.Machine.execOpenConfig p src tag s
  | .writeLineConfig p src tag line select block => Sys2Proof.Machine.execWriteLineConfig p src tag line select block s
  | .writeGlobalConfig p src tag select block => Sys2Proof.Machine.execWriteGlobalConfig p src tag select block s
  | .commitConfig p src tag => Sys2Proof.Machine.execCommitConfig p src tag s
  | .closeConfig p src tag => Sys2Proof.Machine.execCloseConfig p src tag s
  -- the time base
  | .millisecondCountAdvance => Sys2Proof.Machine.execMillisecondCountAdvance s

end Sys2Proof.Machine
end

