-- ==== Sys2Proof/Safety.lean ====
section
/-! DEFINITION. What the statements about the part are made of: when a request is served at once, the three stages
of an accepted request (renewal, the owning unit's effect, the response), the effect of one claim on a line, of
a lease end, of an entry opening or leaving the table, and the invariants of the part. Each predicate says its
rule in the fields of the state before and after, with everything else unchanged. -/

namespace Sys2Proof.Machine

open Sys2Proof

/-! ### Accepted requests (R87, R88, R132, R135, R139, R142, R143) -/

/-- Port p takes a complete packet at once (R132, R135): RSTN is released, the port is not OFF, its assembly
record is IDLE and empty, and its response queue has a free slot. -/
structure Accepting (p : PortId) (s : State) : Prop where
  running : s.rstn = .high
  linked : (s.port p).link ≠ .off
  idle : (s.port p).assembly = ⟨.idle, []⟩
  slot : (s.port p).responses.length < 2

/-- The check byte of the request packet of a code with its parameters (R136, R192). -/
def requestCheck (s : State) (src tag : Byte) (code : RequestCode) (params : List Byte) : Byte :=
  crc8 ([s.linkAddress, src, tag, code.byte] ++ params)

/-- The request is not a duplicate (R139). -/
def NotDuplicate (p : PortId) (src tag : Byte) (code : RequestCode) (params : List Byte) (s : State) :
    Prop :=
  ¬((s.port p).stored.valid = true ∧ (s.port p).stored.tag = tag ∧
    (s.port p).stored.check = requestCheck s src tag code params)

/-- The request is served at once and anew: it goes through decode and dispatch (R135). -/
def Served (p : PortId) (src tag : Byte) (code : RequestCode) (params : List Byte) (s : State) : Prop :=
  Accepting p s ∧ NotDuplicate p src tag code params s

/-- A status record after a notice is raised: placed by R163 when the master is PRESENT and its mask holds the
class (R161), otherwise as it was. -/
def noticed (s : State) (m : MasterId) (nt : Notice) (r : StatusRecord) : StatusRecord :=
  if (s.master m).presence = .present ∧ subscribed r.mask nt.cls = true then r.enqueue nt else r

/-- A status record of master m after notices are raised in their order. -/
def told (s : State) (m : MasterId) (notices : List Notice) (r : StatusRecord) : StatusRecord :=
  notices.foldl (fun r nt => noticed s m nt r) r

/-- The renewal of an accepted request from the master of port p (R87, R88): t is s with master p PRESENT, its
presence deadline set, its source address recorded and its quarantine mark kept; when it was ABSENT,
MASTER_CHANGED (ADMITTED) is raised. Nothing else changes. -/
structure Renewed (p : PortId) (src : Byte) (s t : State) : Prop where
  frame : t = { s with masters := t.masters, status := t.status }
  requester : t.master p =
    ⟨.present, some ⟨s.count, s.config.globals.presenceTimeout⟩, (s.master p).quarantined, some src⟩
  others : ∀ m, m ≠ p → t.master m = s.master m
  status : ∀ m, t.stat m =
    if (s.master p).presence = .absent then
      noticed t m (.masterChanged p .admitted .present (s.master p).quarantined) (s.stat m)
    else s.stat m

/-- The bytes of a response (R142). -/
def responseBytes (addr src tag : Byte) (code : RequestCode) (a : Answer) : List Byte :=
  let body := [src, addr, tag, code.byte + 0x80#8, a.status.byte] ++ a.result
  body ++ [crc8 body]

/-- The response is built, stored under the request's tag and check byte, and queued last unless the port is
OFF (R142, R143): u is t with port p's stored-response record and response queue changed, and nothing
else. -/
structure Answered (p : PortId) (src tag : Byte) (code : RequestCode) (params : List Byte) (a : Answer)
    (t u : State) : Prop where
  frame : u = { t with ports := u.ports }
  others : ∀ k, k ≠ p → u.port k = t.port k
  port : u.port p =
    { t.port p with
      stored := ⟨true, tag, requestCheck t src tag code params,
        responseBytes t.linkAddress src tag code a⟩,
      responses :=
        if (t.port p).link = .off then (t.port p).responses
        else (t.port p).responses ++ [responseBytes t.linkAddress src tag code a] }

/-- The whole event of a served request (R135 steps 3 to 7): renewal from s to r, the owning unit's effect from
r to t, the response from t to u. -/
def RequestTaken (p : PortId) (src tag : Byte) (code : RequestCode) (params : List Byte)
    (effect : State → State → Prop) (ans : State → State → Answer) (s u : State) : Prop :=
  ∃ r t, Renewed p src s r ∧ effect r t ∧ Answered p src tag code params (ans r t) t u

/-- The effect of a read or of a refused request: none. -/
def NoEffect (r t : State) : Prop := t = r

/-- A request refused with a status and a result: its master is renewed and nothing else changes but the
response (R151). -/
def RequestRefused (p : PortId) (src tag : Byte) (code : RequestCode) (params : List Byte) (st : Status)
    (result : State → List Byte) (s u : State) : Prop :=
  RequestTaken p src tag code params NoEffect (fun r _ => ⟨st, result r⟩) s u

/-- The nine bytes of the line result (R54, section 10.3): line number, commanded state, driven level, assertion
set, owner or 0xFF, remaining lease time and remaining pulse time, each high byte first. -/
def nineBytes (t : State) (n : LineId) : List Byte :=
  [lineByte n,
    if (t.line n).commanded = .active then 1#8 else 0#8,
    if t.driven n = .high then 1#8 else 0#8,
    setByte (t.line n).asserted,
    ownerByte (t.line n).owner,
    (remainingOf (t.line n).lease t.count).extractLsb' 8 8,
    (remainingOf (t.line n).lease t.count).extractLsb' 0 8,
    (remainingOf (t.line n).pulse t.count).extractLsb' 8 8,
    (remainingOf (t.line n).pulse t.count).extractLsb' 0 8]

/-! ### Claims on a line (R4 to R8, R66, R76) -/

/-- A claim that changes line n's record by f: the line is changed, at most one LINE_CHANGED is raised with the
cause, and settling restarts on a change of driven level. Nothing else changes. -/
structure ClaimTaken (n : LineId) (cause : Cause) (f : Line → Line) (s t : State) : Prop where
  frame : t = { s with lines := t.lines, status := t.status }
  others : ∀ k, k ≠ n → t.line k = s.line k
  line : t.line n =
    if drivenLevel s.hold.qualified (f (s.line n)) = s.driven n then f (s.line n)
    else if (f (s.line n)).cfg.feedback = true then
      { f (s.line n) with
        feedback := .settling, settle := some ⟨s.count, (f (s.line n)).cfg.settle.setWidth 16⟩ }
    else f (s.line n)
  status : ∀ m, t.stat m =
    if drivenLevel s.hold.qualified (f (s.line n)) = s.driven n then s.stat m
    else noticed s m
      (.lineChanged n (drivenLevel s.hold.qualified (f (s.line n))) (f (s.line n)).commanded cause)
      (s.stat m)

/-- A line record that starts settling on a change of driven level when its check is on (R76). -/
def settling (now : W32) (l : Line) : Line :=
  if l.cfg.feedback = true then
    { l with feedback := .settling, settle := some ⟨now, l.cfg.settle.setWidth 16⟩ }
  else l

/-- What a lease end leaves of a line record (R66 steps 1 to 3). -/
def leaseless (l : Line) : Line :=
  { l with owner := none, lease := none, commanded := .released, pulse := none }

/-- The lease of owner m on line n ends (R66): the record is cleared, LEASE_ENDED is raised, LEASE_LOST is set
for every reason but RELINQUISHED, and LINE_CHANGED follows on a change of driven level. -/
structure LeaseEnds (n : LineId) (m : MasterId) (reason : LeaseReason) (cause : Cause) (s t : State) :
    Prop where
  frame : t = { s with lines := t.lines, status := t.status }
  others : ∀ k, k ≠ n → t.line k = s.line k
  line : t.line n =
    if drivenLevel s.hold.qualified (leaseless (s.line n)) = s.driven n then leaseless (s.line n)
    else if (s.line n).cfg.feedback = true then
      { leaseless (s.line n) with
        feedback := .settling, settle := some ⟨s.count, (s.line n).cfg.settle.setWidth 16⟩ }
    else leaseless (s.line n)
  status : ∀ k, t.stat k =
    let r1 := noticed s k (.leaseEnded n m reason) (s.stat k)
    let r2 := if k = m ∧ reason ≠ .relinquished then r1.setFlag .leaseLost else r1
    if drivenLevel s.hold.qualified (leaseless (s.line n)) = s.driven n then r2
    else noticed s k (.lineChanged n (s.line n).cfg.safe .released cause) r2

/-- Line n's feedback state becomes MISMATCH (R80, R81): FEEDBACK_FAULT is set for all four masters and FEEDBACK
is raised with the driven level and the input level. -/
structure EntersMismatch (n : LineId) (s t : State) : Prop where
  frame : t = { s with lines := t.lines, status := t.status }
  others : ∀ k, k ≠ n → t.line k = s.line k
  line : t.line n = { s.line n with feedback := .mismatch, settle := none }
  status : ∀ m, t.stat m =
    noticed s m (.feedback n .mismatch (s.driven n) (s.input n)) ((s.stat m).setFlag .feedbackFault)

/-! ### The Proposal Table (R23, R29, R38, R50, R51) -/

/-- No entry of the table has the id. -/
def State.idFree (s : State) (id : Byte) : Prop := ∀ e ∈ s.table, e.id ≠ id

/-- A proposal that a PROPOSE can make (R22): a legal pairing of a subject with an action. -/
def pairing : Subject → Action → Bool
  | .line _, .assert => true
  | .line _, .release => true
  | .line _, .pulse => true
  | .master _, .quarantine => true
  | .master _, .reinstate => true
  | .config, .apply => true
  | .part, .restart => true
  | _, _ => false

/-- A request that a packet can spell: a PROPOSE pairs its subject and action as R22 allows. -/
def Request.wellFormed : Request → Bool
  | .propose sub act _ => pairing sub act
  | _ => true

/-- The argument passes the checks of R26 (LINE) or R27 (MASTER); PART has none (R28). -/
def proposalValid (s : State) (requester : MasterId) (act : Action) (arg : W16) : Subject → Prop
  | .line n => (s.line n).cfg.policy = .quorum ∧
      (act = .pulse → 1 ≤ arg.toNat ∧ arg.toNat ≤ (s.line n).cfg.pulseMax.toNat)
  | .master t =>
      (act = .quarantine → t ≠ requester ∧ (s.master t).quarantined = false) ∧
      (act = .reinstate → (s.master t).quarantined = true)
  | .config => False
  | .part => True

/-- The entry a PROPOSE opens in r for master m (R20, R24, R29): it takes the id `id`. -/
def freshEntry (r : State) (id : Byte) (m : MasterId) (sub : Subject) (act : Action) (arg : W16) : Entry where
  id := id
  subject := sub
  action := act
  duration := if act = .pulse then some arg else none
  revision := none
  opener := m
  voters := onlyBit m.val
  required := match sub with
    | .line n => (r.config.line n).quorum
    | .master _ => r.config.globals.quarantineQuorum
    | .config => r.config.globals.configQuorum
    | .part => r.config.globals.restartQuorum
  deadline := ⟨r.count, r.config.globals.voteWindow⟩
  state := .voting

/-- An entry opens: it takes the last place of the table, the next-id counter moves past its id, and
PROPOSAL_OPENED is raised (R23, R29 step 2, R50). -/
structure EntryOpens (e : Entry) (s t : State) : Prop where
  frame : t = { s with table := s.table ++ [e], nextId := (if e.id = 255#8 then 1#8 else e.id + 1#8),
                       status := t.status }
  status : ∀ m, t.stat m =
    noticed s m
      (.proposalOpened e.id e.subject e.action e.argument e.opener e.required e.deadline.span) (s.stat m)

/-- An entry leaves the table with an outcome and PROPOSAL_ENDED is raised (R51); the order of the others is
kept (R21). -/
structure EntryEnds (e : Entry) (out : EntryOutcome) (s t : State) : Prop where
  frame : t = { s with table := s.table.filter (fun x => x.id ≠ e.id), status := t.status }
  status : ∀ m, t.stat m =
    noticed s m (.proposalEnded e.id e.subject e.action out e.voters) (s.stat m)

/-- A carried LINE entry's effect on its line record (R39). -/
def carriedLine (now : W32) (e : Entry) (l : Line) : Line :=
  match e.action with
  | .assert => { l with commanded := .active, pulse := none }
  | .release => { l with commanded := .released, pulse := none }
  | .pulse => { l with commanded := .active, pulse := some ⟨now, e.duration.getD 0#16⟩ }
  | _ => l

/-! ### The refusals, in the order of their checks (R26 to R28, R53, R111) -/

/-- The first failing check of R53 for a direct request of master m on line n with duration d, and its
result (R54); `none` when every check passes. -/
def directRefusal (s : State) (m : MasterId) (n : LineId) (code : RequestCode) (d : W16) :
    Option (Status × List Byte) :=
  let l := s.line n
  let leased := l.cfg.policy = .leased
  let served := leased ∨ (l.cfg.policy = .shared ∧ (code = .assertLine ∨ code = .releaseLine))
  if (s.master m).quarantined = true then some (.quarantined, [])
  else if ¬served then some (.policy, [])
  else if code = .pulseLine ∧ l.cfg.pulseMax = 0#16 then some (.policy, [])
  else if leased ∧ code ≠ .claimLine ∧ l.owner ≠ some m then some (.notOwner, [ownerByte l.owner])
  else if leased ∧ code = .claimLine ∧ l.owner ≠ none ∧ l.owner ≠ some m then
    some (.busy, ownerByte l.owner :: wordBytes (remainingOf l.lease s.count))
  else if (code = .claimLine ∨ code = .renewLease) ∧ ¬(10 ≤ d.toNat ∧ d.toNat ≤ l.cfg.leaseMax.toNat) then
    some (.range, [])
  else if code = .pulseLine ∧ ¬(1 ≤ d.toNat ∧ d.toNat ≤ l.cfg.pulseMax.toNat) then some (.range, [])
  else if (code = .assertLine ∨ code = .pulseLine) ∧ s.hold.qualified = .asserted then some (.held, [])
  else none

/-- The six direct requests on the line a byte names, with duration d (section 3.1). -/
def directRequests (p : PortId) (src tag line : Byte) (d : W16) :
    List (Instr × RequestCode × List Byte) :=
  [(.assertLine p src tag line, .assertLine, [line]),
   (.releaseLine p src tag line, .releaseLine, [line]),
   (.claimLine p src tag line d, .claimLine, line :: wordBytes d),
   (.renewLease p src tag line d, .renewLease, line :: wordBytes d),
   (.relinquishLine p src tag line, .relinquishLine, [line]),
   (.pulseLine p src tag line d, .pulseLine, line :: wordBytes d)]

/-- The index byte of a PROPOSE names the subject; for CONFIG and PART it is not read, so any byte does
(R22). -/
def indexSpells (index : Byte) : Subject → Prop
  | .line n => index = lineByte n
  | .master m => index = masterByte m
  | .config => True
  | .part => True

/-- The parameter bytes of a PROPOSE of an action on a subject. -/
def proposalParams (sub : Subject) (index : Byte) (act : Action) (arg : W16) : List Byte :=
  [sub.kindByte, index, act.byte] ++ wordBytes arg

/-- The entry that has a subject asks for something else than a proposal (R30, R32, R33). -/
def differs (e : Entry) (act : Action) (arg : W16) : Prop :=
  e.action ≠ act ∨ (act = .pulse ∧ e.duration ≠ some arg)

/-- A PROPOSE of master m is a vote for entry e: it passes the checks of R26 to R28 and asks for the same thing
(R30). -/
structure VotesFor (s : State) (m : MasterId) (sub : Subject) (act : Action) (arg : W16) (e : Entry) :
    Prop where
  found : s.entryOn sub = some e
  same : ¬differs e act arg
  revision : sub = .config → e.revision = some arg
  valid : sub ≠ .config → proposalValid s m act arg sub
  unquarantined : (s.master m).quarantined = false

/-- An entry with master m's vote added (R30). -/
def withVote (m : MasterId) (e : Entry) : Entry := { e with voters := addBit e.voters m.val }

/-- The table with each entry of an id replaced, in its place (R30: a vote does not move the entry). -/
def replaced (s : State) (e : Entry) : State :=
  { s with table := s.table.map fun x => if x.id = e.id then e else x }

/-- How a PROPOSE of master p brings an entry to its required count: by a vote (R30), by opening it under a
required count of 1 (R29), or by superseding an entry of one vote on a line of quorum 1 (R32). The entry is the
one that reaches its count; the relation takes the state after the renewal to the state in which the entry is
then carried or becomes READY. -/
inductive CountReached (s : State) (p : MasterId) (sub : Subject) (act : Action) (arg : W16) :
    Entry → (State → State → Prop) → Prop where
  /-- R30: the vote is added, the entry keeps its place. -/
  | vote (e : Entry) (hv : VotesFor s p sub act arg e) (hb : hasBit e.voters p.val = false)
      (hs : e.state = .voting) (hc : e.required.toNat ≤ (withVote p e).count) :
      CountReached s p sub act arg (withVote p e) fun r x => x = replaced r (withVote p e)
  /-- R29: a subject that no entry has. -/
  | opened (hq : (s.master p).quarantined = false) (hv : proposalValid s p act arg sub)
      (hn : s.entryOn sub = none) (hl : s.table.length < 12)
      (hc : (freshEntry s s.freeId p sub act arg).required.toNat ≤ 1) :
      CountReached s p sub act arg (freshEntry s s.freeId p sub act arg)
        (EntryOpens (freshEntry s s.freeId p sub act arg))
  /-- R32: the old entry ends SUPERSEDED, and the new id is free of the table without it. -/
  | superseded (e : Entry) (n : LineId) (id : Byte) (hq : (s.master p).quarantined = false)
      (hv : proposalValid s p act arg sub) (hl : sub = .line n) (he : s.entryOn sub = some e)
      (hd : differs e act arg) (ho : e.voters = onlyBit p.val)
      (hi : id = ({ s with table := s.table.filter fun x => x.id ≠ e.id } : State).freeId)
      (hc : (freshEntry s id p sub act arg).required.toNat ≤ 1) :
      CountReached s p sub act arg (freshEntry s id p sub act arg) fun r x =>
        ∃ y, EntryEnds e .superseded r y ∧ EntryOpens (freshEntry s id p sub act arg) y x

/-! ### What a master loses (R10, R46, R96) -/

/-- A line record without master m: out of the assertion set, which RELEASES the line when it is empty, and
without a lease of m (R4, R10, R66). -/
def withoutMaster (m : MasterId) (l : Line) : Line :=
  if hasBit l.asserted m.val = true then
    { l with
      asserted := removeBit l.asserted m.val
      commanded := if removeBit l.asserted m.val = 0#4 then .released else .active }
  else if l.owner = some m then leaseless l
  else l

/-- Line n is driven otherwise once master m is removed from it. -/
abbrev moves (s : State) (m : MasterId) (n : LineId) : Prop :=
  drivenLevel s.hold.qualified (withoutMaster m (s.line n)) ≠ s.driven n

/-- An entry without master m's vote: it returns from READY to OPEN when its count falls below the required
count (R36, R46). -/
def unvoted (m : MasterId) (e : Entry) : Entry :=
  if hasBit e.voters m.val = true then
    { e with
      voters := removeBit e.voters m.val
      state := if e.state = .ready ∧ masterCount (removeBit e.voters m.val) < e.required.toNat
        then .voting else e.state }
  else e

/-- The entry ends with master m's session: it is the APPLY entry and m owns the session (R48, R124). -/
abbrev endsWithSession (s : State) (m : MasterId) (e : Entry) : Prop :=
  e.subject = .config ∧ s.session.owner? = some m

/-- The entries that a session of master m leaves in the table, in their order. -/
def outsideSession (s : State) (m : MasterId) : List Entry :=
  s.table.filter fun e => ¬endsWithSession s m e

/-- The session without master m: none when m owned it; back in EDITING when m's was the only vote for its
APPLY entry (R118); otherwise as it is. -/
def sessionWithout (s : State) (m : MasterId) : Session :=
  if s.session.owner? = some m then .none
  else match s.session with
    | .voting o sh rev =>
      if ∃ e ∈ s.table, e.subject = .config ∧ e.voters = onlyBit m.val
      then .editing o sh rev ⟨s.count, 10000#16⟩
      else .voting o sh rev
    | other => other

/-- The notices of the removal of master m, in their order: line by line LEASE_ENDED and LINE_CHANGED (R10, R66),
then the APPLY entry of its session CANCELLED (R48), then the entries that had its vote alone WITHDRAWN (R46). -/
def removalNotices (s : State) (m : MasterId) (reason : LeaseReason) (cause : Cause) : List Notice :=
  (allLines.map fun n =>
    (if (s.line n).owner = some m then [.leaseEnded n m reason] else []) ++
    (if moves s m n then [.lineChanged n (drivenLevel s.hold.qualified (withoutMaster m (s.line n)))
      (withoutMaster m (s.line n)).commanded cause] else [])).flatten ++
  ((s.table.filter fun e => endsWithSession s m e).map fun e =>
    .proposalEnded e.id e.subject e.action .cancelled e.voters) ++
  (((outsideSession s m).filter fun e => e.voters = onlyBit m.val).map fun e =>
    .proposalEnded e.id e.subject e.action .withdrawn 0#4)

/-- Master m owns a line. -/
abbrev ownsALine (s : State) (m : MasterId) : Prop := ∃ n, (s.line n).owner = some m

/-- Master m loses its assertions, its leases, its session and its votes (R96), from s to t; every other
assertion, lease, vote, entry and session is kept, and so is every other record but those of the masters and
their status. -/
structure MasterRemoved (m : MasterId) (s t : State) : Prop where
  frame : t = { s with
    lines := t.lines, table := t.table, session := t.session, masters := t.masters, status := t.status }
  line : ∀ n, t.line n =
    if moves s m n then settling s.count (withoutMaster m (s.line n)) else withoutMaster m (s.line n)
  table : t.table = ((outsideSession s m).map (unvoted m)).filter fun e => e.voters ≠ 0#4
  session : t.session = sessionWithout s m

/-- The refusals of a PROPOSE of master m with their results (R25 to R29, R33, R34): which status the spec gives,
for the first check that fails. -/
inductive ProposeRefused (s : State) (m : MasterId) (act : Action) (arg : W16) :
    Subject → Status → List Byte → Prop where
  /-- R25. -/
  | quarantined (sub : Subject) (h : (s.master m).quarantined = true) :
      ProposeRefused s m act arg sub .quarantined []
  /-- R26 check 1. -/
  | policy (n : LineId) (h : (s.master m).quarantined = false) (hp : (s.line n).cfg.policy ≠ .quorum) :
      ProposeRefused s m act arg (.line n) .policy []
  /-- R26 check 2. -/
  | noPulse (n : LineId) (h : (s.master m).quarantined = false) (hp : (s.line n).cfg.policy = .quorum)
      (ha : act = .pulse) (h0 : (s.line n).cfg.pulseMax = 0#16) :
      ProposeRefused s m act arg (.line n) .policy []
  /-- R26 check 3. -/
  | range (n : LineId) (h : (s.master m).quarantined = false) (hp : (s.line n).cfg.policy = .quorum)
      (ha : act = .pulse) (h0 : (s.line n).cfg.pulseMax ≠ 0#16)
      (hd : arg = 0#16 ∨ (s.line n).cfg.pulseMax.toNat < arg.toNat) :
      ProposeRefused s m act arg (.line n) .range []
  /-- R27 check 1. -/
  | notEligible (h : (s.master m).quarantined = false) (ha : act = .quarantine) :
      ProposeRefused s m act arg (.master m) .notEligible []
  /-- R27 check 2, QUARANTINE. -/
  | quarantinedAlready (k : MasterId) (h : (s.master m).quarantined = false) (ha : act = .quarantine)
      (hk : k ≠ m) (hq : (s.master k).quarantined = true) :
      ProposeRefused s m act arg (.master k) .state []
  /-- R27 check 2, REINSTATE. -/
  | notQuarantined (k : MasterId) (h : (s.master m).quarantined = false) (ha : act = .reinstate)
      (hq : (s.master k).quarantined = false) :
      ProposeRefused s m act arg (.master k) .state []
  /-- R28 check 1. -/
  | noSession (h : (s.master m).quarantined = false) (hn : s.entryOn .config = none) :
      ProposeRefused s m act arg .config .noSession []
  /-- R28 check 2. -/
  | stale (e : Entry) (rev : W16) (h : (s.master m).quarantined = false)
      (he : s.entryOn .config = some e) (hr : e.revision = some rev) (hd : rev ≠ arg) :
      ProposeRefused s m act arg .config .stale (e.id :: wordBytes rev)
  /-- R29 step 1. -/
  | tableFull (sub : Subject) (h : (s.master m).quarantined = false)
      (hv : proposalValid s m act arg sub) (hn : s.entryOn sub = none) (hf : 12 ≤ s.table.length) :
      ProposeRefused s m act arg sub .tableFull []
  /-- R33, and R34 for the result. -/
  | conflict (sub : Subject) (e : Entry) (h : (s.master m).quarantined = false)
      (hv : proposalValid s m act arg sub) (he : s.entryOn sub = some e) (hd : differs e act arg)
      (hs : e.voters ≠ onlyBit m.val) :
      ProposeRefused s m act arg sub .conflict ([e.id, e.action.byte] ++ wordBytes (e.duration.getD 0#16))

/-- The session standing that R111 reads: the state, and whether master m is the owner. -/
def ownsEditing (s : State) (m : MasterId) : Prop := ∃ sh rev d, s.session = .editing m sh rev d

/-- Master m owns the session in VOTING. -/
def ownsVoting (s : State) (m : MasterId) : Prop := ∃ sh rev, s.session = .voting m sh rev

/-- A selected line field's value lies in its range (R113): field numbers 0 policy to 6 settle time. -/
def lineFieldValid (b : LineBlock) (i : Nat) : Prop :=
  match i with
  | 0 => b.policy.toNat ≤ 3
  | 1 => 1 ≤ b.quorum.toNat ∧ b.quorum.toNat ≤ 4
  | 2 => b.safe.toNat ≤ 1
  | 3 => b.pulseMax.toNat ≤ 60000
  | 4 => 10 ≤ b.leaseMax.toNat ∧ b.leaseMax.toNat ≤ 60000
  | 5 => b.feedback.toNat ≤ 1
  | _ => 1 ≤ b.settle.toNat

/-- A selected global parameter's value lies in its range (R106, R114): numbers 0 presence timeout to 5 port
enable set. -/
def globalFieldValid (b : GlobalBlock) (i : Nat) : Prop :=
  match i with
  | 0 => 100 ≤ b.presenceTimeout.toNat ∧ b.presenceTimeout.toNat ≤ 60000
  | 1 => 100 ≤ b.voteWindow.toNat ∧ b.voteWindow.toNat ≤ 60000
  | 2 => 1 ≤ b.quarantineQuorum.toNat ∧ b.quarantineQuorum.toNat ≤ 3
  | 3 => 1 ≤ b.restartQuorum.toNat ∧ b.restartQuorum.toNat ≤ 4
  | 4 => 1 ≤ b.configQuorum.toNat ∧ b.configQuorum.toNat ≤ 4
  | _ => 1 ≤ b.ports.toNat ∧ b.ports.toNat ≤ 15

/-- Field i is selected and its value is refused, and no selected field before it is (R113: the first field
whose value is outside). -/
def FirstBad (select : Byte) (valid : Nat → Prop) (count i : Nat) : Prop :=
  i < count ∧ hasBit select i = true ∧ ¬valid i ∧ ∀ j, j < i → hasBit select j = true → valid j

/-! ### Applying a configuration (R119 to R122, R188, R189) -/

/-- The record of a line whose configuration part an apply changed (R9, R77, R120). -/
def appliedLine (now : W32) (cfg : LineConfig) : Line :=
  ⟨cfg, .released, 0#4, none, none, none, if cfg.feedback = true then .settling else .off,
    if cfg.feedback = true then some ⟨now, cfg.settle.setWidth 16⟩ else none⟩

/-- The set of lines whose configuration parts differ (R123): bit n is set for Ln. -/
def changedSet (old new : Configuration) : BitVec 16 :=
  BitVec.ofNat 16 ((allLines.map fun n => if old.line n = new.line n then 0 else 2 ^ n.val).sum)

/-- The notices of an apply, in their order: for each changed line LEASE_ENDED, LINE_CHANGED and the cancelled
entry's PROPOSAL_ENDED (R9, R47, R120); then CONFIG_APPLIED (R123). -/
def applyNotices (s : State) (sh : Configuration) (rev : W16) : List Notice :=
  ((allLines.filter fun n => s.config.line n ≠ sh.line n).map fun n =>
    (match (s.line n).owner with
      | none => []
      | some m => [.leaseEnded n m .config]) ++
    (if s.driven n = (sh.line n).safe then []
      else [.lineChanged n (sh.line n).safe .released .config]) ++
    (s.table.filter fun e => e.subject = .line n).map fun e =>
      .proposalEnded e.id e.subject e.action .cancelled e.voters).flatten ++
  [.configApplied (s.generation + 1#16) rev (changedSet s.config sh)
    (s.config.globals ≠ sh.globals) sh.globals.ports]

/-- An apply of a shadow configuration at a revision, from s to t: the configuration, the lines, the entries on
changed lines, the ports that leave or enter the enable set, and the status records. The field `wire` of a port is
the model's own (log entry 9), and that a port going OFF keeps IDLE sent is the model's choice (log entry 11). -/
structure Applied (sh : Configuration) (rev : W16) (s t : State) : Prop where
  frame : t = { s with
    config := sh, generation := s.generation + 1#16, session := .none,
    lines := t.lines, table := t.table, ports := t.ports, status := t.status }
  kept : ∀ n, s.config.line n = sh.line n → t.line n = s.line n
  reset : ∀ n, s.config.line n ≠ sh.line n → t.line n = appliedLine s.count (sh.line n)
  table : t.table =
    s.table.filter fun e => ¬∃ n, e.subject = .line n ∧ s.config.line n ≠ sh.line n
  samePorts : ∀ p : PortId, s.config.globals.ports.getLsbD p.val = sh.globals.ports.getLsbD p.val →
    t.port p = s.port p
  left : ∀ p : PortId, s.config.globals.ports.getLsbD p.val = true →
    sh.globals.ports.getLsbD p.val = false →
    t.port p = { s.port p with
      link := .off, rx := [], outstanding := 0, credit := 0, tx := none, holdoff := none,
      handshake := none, disconnect := none, wire := none, assembly := ⟨.idle, []⟩, responses := [] }
  entered : ∀ p : PortId, s.config.globals.ports.getLsbD p.val = false →
    sh.globals.ports.getLsbD p.val = true →
    t.port p =
      if s.linkAddress = 0#8 ∨ s.linkAddress = 255#8 then s.port p
      else { s.port p with
        link := .quiet, rx := [], outstanding := 0, credit := 0, tx := none, idleSent := false,
        holdoff := some 20000, handshake := none, disconnect := none, wire := none }
  status : ∀ m, t.stat m =
    let r1 := told s m (applyNotices s sh rev) (s.stat m)
    let r2 := if ∃ n, s.config.line n ≠ sh.line n ∧ (s.line n).owner = some m
      then r1.setFlag .leaseLost else r1
    if s.config.globals.ports.getLsbD m.val = true ∧ sh.globals.ports.getLsbD m.val = false ∧
        (s.port m).sendsNotice = true
    then r2.setFlag .noticeLost else r2

/-! ### HOLD (R13, R15) -/

/-- A line record after step 1 of the HOLD asserted event: a running timed activation is ended (R13). -/
def unpulsed (l : Line) : Line :=
  if l.pulse.isSome = true then { l with commanded := .released, pulse := none } else l

/-- The LINE_CHANGED notices that a HOLD event raises, in ascending line order, given the lines that change and
what each reports. -/
def holdNotices (s : State) (m : MasterId) (changed : LineId → Bool) (report : LineId → Notice)
    (r : StatusRecord) : StatusRecord :=
  told s m ((allLines.filter changed).map report) r

/-- The READY entry on line n: the lines of READY entries are all different (R44). -/
def readyOn (s : State) (n : LineId) : Option Entry :=
  s.table.find? fun e => e.subject = .line n ∧ e.state = .ready

/-- A line that step 1 of the HOLD released event returns to its active level (R15): commanded ACTIVE under a policy
other than FIXED. -/
abbrev returns (s : State) (n : LineId) : Prop :=
  (s.line n).cfg.policy ≠ .fixed ∧ (s.line n).commanded = .active

/-- The record of line n after the HOLD released event: a line that returns settles again (R15 step 1), and then a
READY entry on it is carried (R15 step 2, R39), which settles a line that was RELEASED (R7, R76). -/
def releasedLine (s : State) (n : LineId) : Line :=
  let returned := if returns s n then settling s.count (s.line n) else s.line n
  match readyOn s n with
  | none => returned
  | some e =>
    if (s.line n).commanded = .active then carriedLine s.count e returned
    else settling s.count (carriedLine s.count e (s.line n))

/-- The notices that carrying a READY entry raises: LINE_CHANGED with cause PROPOSAL when its line was RELEASED
(R15, R39), then PROPOSAL_ENDED CARRIED (R38 step 2, R51). -/
def readyNotices (s : State) (e : Entry) : List Notice :=
  (match e.subject with
    | .line n =>
      if (s.line n).commanded = .active then []
      else [.lineChanged n (opposite (s.line n).cfg.safe) .active .proposal]
    | .master _ => []
    | .config => []
    | .part => []) ++
  [.proposalEnded e.id e.subject e.action .carried e.voters]

/-- The notices of the HOLD released event, in their order (R15): LINE_CHANGED with cause HOLD for each line that
returns, in ascending line order; those of each READY entry, in table order (R44); HOLD_CHANGED. -/
def holdReleaseNotices (s : State) : List Notice :=
  (allLines.filter fun n => returns s n).map
    (fun n => .lineChanged n (opposite (s.line n).cfg.safe) .active .hold) ++
  ((s.table.filter fun e => e.state = .ready).map (readyNotices s)).flatten ++
  [.holdChanged .released]

/-! ### Commands of the table -/

/-- The request command a constructor stands for: its port, source, tag, code and parameter bytes
(section 10.3). -/
def requestOf : Instr → Option (PortId × Byte × Byte × RequestCode × List Byte)
  | .readStatus p src tag => some (p, src, tag, .readStatus, [])
  | .readLines p src tag => some (p, src, tag, .readLines, [])
  | .readLine p src tag n => some (p, src, tag, .readLine, [n])
  | .readProposals p src tag i => some (p, src, tag, .readProposals, [i])
  | .readConfig p src tag t => some (p, src, tag, .readConfig, [t])
  | .readShadow p src tag t => some (p, src, tag, .readShadow, [t])
  | .heartbeat p src tag => some (p, src, tag, .heartbeat, [])
  | .subscribe p src tag mask => some (p, src, tag, .subscribe, [mask])
  | .resync p src tag => some (p, src, tag, .resync, [])
  | .assertLine p src tag n => some (p, src, tag, .assertLine, [n])
  | .releaseLine p src tag n => some (p, src, tag, .releaseLine, [n])
  | .claimLine p src tag n d => some (p, src, tag, .claimLine, n :: wordBytes d)
  | .renewLease p src tag n d => some (p, src, tag, .renewLease, n :: wordBytes d)
  | .relinquishLine p src tag n => some (p, src, tag, .relinquishLine, [n])
  | .pulseLine p src tag n d => some (p, src, tag, .pulseLine, n :: wordBytes d)
  | .propose p src tag k i a g => some (p, src, tag, .propose, [k, i, a] ++ wordBytes g)
  | .withdraw p src tag id => some (p, src, tag, .withdraw, [id])
  | .openConfig p src tag => some (p, src, tag, .openConfig, [])
  | .writeLineConfig p src tag n sel b => some (p, src, tag, .writeLineConfig,
      [n, sel, b.policy, b.quorum, b.safe] ++ wordBytes b.pulseMax ++ wordBytes b.leaseMax ++
        [b.feedback, b.settle])
  | .writeGlobalConfig p src tag sel b => some (p, src, tag, .writeGlobalConfig,
      [sel] ++ wordBytes b.presenceTimeout ++ wordBytes b.voteWindow ++
        [b.quarantineQuorum, b.restartQuorum, b.configQuorum, b.ports])
  | .commitConfig p src tag => some (p, src, tag, .commitConfig, [])
  | .closeConfig p src tag => some (p, src, tag, .closeConfig, [])
  | _ => none

/-! ### The code tables of chapter 10 -/

/-- Table 10-1 (R193): each request with its code and its parameter length. -/
def table101 : List (RequestCode × Byte × Nat) :=
  [(.readStatus, 0x01#8, 0), (.readLines, 0x02#8, 0), (.readLine, 0x03#8, 1), (.readProposals, 0x04#8, 1),
   (.readConfig, 0x05#8, 1), (.readShadow, 0x06#8, 1), (.heartbeat, 0x10#8, 0), (.subscribe, 0x11#8, 1),
   (.resync, 0x12#8, 0), (.assertLine, 0x20#8, 1), (.releaseLine, 0x21#8, 1), (.claimLine, 0x22#8, 3),
   (.renewLease, 0x23#8, 3), (.relinquishLine, 0x24#8, 1), (.pulseLine, 0x25#8, 3), (.propose, 0x30#8, 5),
   (.withdraw, 0x31#8, 1), (.openConfig, 0x40#8, 0), (.writeLineConfig, 0x41#8, 11),
   (.writeGlobalConfig, 0x42#8, 9), (.commitConfig, 0x43#8, 0), (.closeConfig, 0x44#8, 0)]

/-- Table 10-2: each status with its code. -/
def table102 : List (Status × Byte) :=
  [(.done, 0x00#8), (.voted, 0x01#8), (.carried, 0x02#8), (.ready, 0x03#8), (.alreadyVoted, 0x04#8),
   (.code, 0x80#8), (.format, 0x81#8), (.range, 0x82#8), (.policy, 0x83#8), (.notOwner, 0x84#8),
   (.busy, 0x85#8), (.conflict, 0x86#8), (.tableFull, 0x87#8), (.quarantined, 0x88#8),
   (.notEligible, 0x89#8), (.stale, 0x8A#8), (.noSession, 0x8B#8), (.frozen, 0x8C#8), (.held, 0x8D#8),
   (.notFound, 0x8E#8), (.state, 0x8F#8)]

/-- The field encodings of Table 10-3, with two-byte fields high byte first. -/
structure FieldCodes : Prop where
  word : ∀ w : W16, wordBytes w = [BitVec.ofNat 8 (w.toNat / 256), BitVec.ofNat 8 w.toNat]
  lineNumber : ∀ n : LineId, lineByte n = BitVec.ofNat 8 n.val
  masterNumber : ∀ m : MasterId, masterByte m = BitVec.ofNat 8 m.val
  owner : ownerByte none = 0xFF#8 ∧ ∀ m : MasterId, ownerByte (some m) = BitVec.ofNat 8 m.val
  sets : ∀ (set : BitVec 4) (i : Nat), (setByte set).getLsbD i = (decide (i < 4) && set.getLsbD i)
  level : levelByte .low = 0#8 ∧ levelByte .high = 1#8
  commanded : Commanded.byte .released = 0#8 ∧ Commanded.byte .active = 1#8
  policy : [Policy.shared, .leased, .quorum, .fixed].map Policy.byte = [0#8, 1#8, 2#8, 3#8]
  feedback : [FeedbackState.off, .settling, .matching, .mismatch].map FeedbackState.byte =
    [0#8, 1#8, 2#8, 3#8]
  hold : HoldLevel.byte .released = 0#8 ∧ HoldLevel.byte .asserted = 1#8
  restart : RestartCause.byte .pin = 0#8 ∧ RestartCause.byte .commanded = 1#8
  session : Session.stateByte .none = 0#8 ∧ (∀ o sh rev d, Session.stateByte (.editing o sh rev d) = 1#8) ∧
    ∀ o sh rev, Session.stateByte (.voting o sh rev) = 2#8
  entry : EntryState.byte .voting = 0#8 ∧ EntryState.byte .ready = 1#8
  subject : (∀ n : LineId, (Subject.line n).kindByte = 0#8 ∧ (Subject.line n).indexByte = BitVec.ofNat 8 n.val) ∧
    (∀ m : MasterId, (Subject.master m).kindByte = 1#8 ∧ (Subject.master m).indexByte = BitVec.ofNat 8 m.val) ∧
    Subject.config.kindByte = 2#8 ∧ Subject.config.indexByte = 0#8 ∧
    Subject.part.kindByte = 3#8 ∧ Subject.part.indexByte = 0#8
  action : [Action.assert, .release, .pulse, .quarantine, .reinstate, .apply, .restart].map Action.byte =
    [1#8, 2#8, 3#8, 4#8, 5#8, 6#8, 7#8]
  outcome : [EntryOutcome.carried, .expired, .withdrawn, .superseded, .cancelled].map EntryOutcome.byte =
    [1#8, 2#8, 3#8, 4#8, 5#8]
  yesNo : boolByte false = 0#8 ∧ boolByte true = 1#8
  target : (∀ n : LineId, (Target.line n).byte = BitVec.ofNat 8 n.val) ∧ Target.globals.byte = 0x10#8

/-- The bit positions of the flags in the sticky flag word (Table 10-4) and of the classes in the subscription
mask. -/
structure BitCodes : Prop where
  flag : [Flag.restarted, .noticeLost, .linkError, .badCheck, .wrongAddress, .malformed, .truncated, .leaseLost,
    .quarantinedEvt, .feedbackFault, .holdSeen].map flagBit = [0, 1, 2, 3, 4, 5, 6, 7, 8, 9, 10]
  flagWord : ∀ f : FlagSet, flagBytes f = [BitVec.ofNat 8 (f.toNat / 256), BitVec.ofNat 8 f.toNat]
  noticeClass : [NoticeClass.lines, .proposals, .leases, .feedback, .masters, .part].map classBit =
    [0, 1, 2, 3, 4, 5]

/-- The line configuration block and the global block (section 10.3). -/
structure BlockCodes : Prop where
  line : ∀ c : LineConfig, c.bytes =
    [c.policy.byte, c.quorum, levelByte c.safe, c.pulseMax.extractLsb' 8 8, c.pulseMax.extractLsb' 0 8,
      c.leaseMax.extractLsb' 8 8, c.leaseMax.extractLsb' 0 8, boolByte c.feedback, c.settle]
  globals : ∀ g : GlobalConfig, g.bytes =
    [g.presenceTimeout.extractLsb' 8 8, g.presenceTimeout.extractLsb' 0 8, g.voteWindow.extractLsb' 8 8,
      g.voteWindow.extractLsb' 0 8, g.quarantineQuorum, g.restartQuorum, g.configQuorum, setByte g.ports]

/-- The cause, reason and change codes of Table 10-6. -/
structure ReportCodes : Prop where
  cause : [Cause.direct, .proposal, .pulseEnd, .leaseEnd, .hold, .config, .restart, .absent,
    .quarantine].map Cause.byte = [1#8, 2#8, 3#8, 4#8, 5#8, 6#8, 7#8, 8#8, 9#8]
  reason : [LeaseReason.expired, .relinquished, .absent, .quarantine, .config, .restart].map LeaseReason.byte =
    [1#8, 2#8, 3#8, 4#8, 5#8, 6#8]
  change : [MasterChange.admitted, .expired, .quarantined, .reinstated].map MasterChange.byte =
    [1#8, 2#8, 3#8, 4#8]

/-- The code tables of chapter 10: a request code is one of Table 10-1, with its parameter length, and a byte that is
not in the table is no request code; the statuses, fields, bits, blocks and reports have the codes of their
tables. -/
structure CodeTables : Prop where
  request : ∀ c : RequestCode, (c, c.byte, c.paramLength) ∈ table101
  unknown : ∀ b : Byte, (∀ row ∈ table101, row.2.1 ≠ b) → requestCodeOf b = none
  status : ∀ st : Status, (st, st.byte) ∈ table102
  fields : FieldCodes
  bits : BitCodes
  blocks : BlockCodes
  reports : ReportCodes

/-- The kind byte and the payload of a notice (section 10.4, Table 10-5). The byte for ABSENT in MASTER_CHANGED is a
free value of the model (log entry 13). -/
def noticeBytes : Notice → List Byte
  | .lineChanged n driven commanded cause =>
    [0x01#8, lineByte n, levelByte driven, commanded.byte, cause.byte]
  | .proposalOpened id sub act arg opener required window =>
    [0x02#8, id, sub.kindByte, sub.indexByte, act.byte, arg.extractLsb' 8 8, arg.extractLsb' 0 8,
      masterByte opener, required, window.extractLsb' 8 8, window.extractLsb' 0 8]
  | .proposalEnded id sub act outcome voters =>
    [0x03#8, id, sub.kindByte, sub.indexByte, act.byte, outcome.byte, setByte voters]
  | .leaseEnded n owner reason => [0x04#8, lineByte n, masterByte owner, reason.byte]
  | .feedback n state driven input => [0x05#8, lineByte n, state.byte, levelByte driven, levelByte input]
  | .masterChanged m change presence quarantined =>
    [0x06#8, masterByte m, change.byte, if presence = .present then 1#8 else Config.absentByte,
      boolByte quarantined]
  | .configApplied generation revision lines globals ports =>
    [0x07#8, generation.extractLsb' 8 8, generation.extractLsb' 0 8, revision.extractLsb' 8 8,
      revision.extractLsb' 0 8, lines.extractLsb' 8 8, lines.extractLsb' 0 8, boolByte globals, setByte ports]
  | .holdChanged level => [0x08#8, level.byte]

/-- The class and the subject key of a notice (section 8.5): a key belongs to one class and is a number in it; the two
kinds of PROPOSALS share the entry id, the two of PART have a key each. -/
def noticeSubject : Notice → NoticeClass × Nat
  | .lineChanged n _ _ _ => (.lines, n.val)
  | .proposalOpened id _ _ _ _ _ _ => (.proposals, id.toNat)
  | .proposalEnded id _ _ _ _ => (.proposals, id.toNat)
  | .leaseEnded n _ _ => (.leases, n.val)
  | .feedback n _ _ _ => (.feedback, n.val)
  | .masterChanged m _ _ _ => (.masters, m.val)
  | .configApplied _ _ _ _ _ => (.part, 0)
  | .holdChanged _ => (.part, 1)

/-! ### Packets on a port (R131, R135, R177) -/

/-- A port in UP takes a DATA, END or FAIL: the outstanding grant is lowered and the disconnect deadline
restarted (R177). -/
def heardOne (s : State) (p : PortId) : State :=
  s.setPort p { s.port p with
    disconnect := some 1500, outstanding := (s.port p).outstanding - 1 }

/-- The assembly record of a port replaced. -/
def assembling (s : State) (p : PortId) (a : Assembly) : State :=
  s.setPort p { s.port p with assembly := a }

/-- A flag set in the flags of one master (R133, R155). -/
def flagged (s : State) (m : MasterId) (f : Flag) : State :=
  s.setStat m { s.stat m with flags := addBit (s.stat m).flags (flagBit f) }

/-- The request as the Transaction Unit keeps it (R136, R140). -/
def rawRequest (s : State) (src tag : Byte) (code : RequestCode) (params : List Byte) : RawRequest :=
  ⟨src, tag, code.byte, params, requestCheck s src tag code params⟩

/-- The packet of a request on the wire, addressed to the part (section 10.1). -/
def requestBytes (s : State) (src tag : Byte) (code : RequestCode) (params : List Byte) : List Byte :=
  [s.linkAddress, src, tag, code.byte] ++ params ++ [requestCheck s src tag code params]

/-- A character taken from the receive buffer acts on the assembly record by its row of R131, an END in
GATHERING by R132; a complete packet with a free slot is processed (R135). -/
inductive CharTaken (p : PortId) (s : State) : RxChar → State → Prop where
  | first (b : Byte) (h : (s.port p).assembly.state = .idle) :
      CharTaken p s (.data b) (assembling s p ⟨.gathering, [b]⟩)
  | next (b : Byte) (h : (s.port p).assembly.state = .gathering) (hl : (s.port p).assembly.bytes.length < 24) :
      CharTaken p s (.data b) (assembling s p ⟨.gathering, (s.port p).assembly.bytes ++ [b]⟩)
  | tooMany (b : Byte) (h : (s.port p).assembly.state = .gathering)
      (hl : 24 ≤ (s.port p).assembly.bytes.length) :
      CharTaken p s (.data b) (assembling s p ⟨.overlong, (s.port p).assembly.bytes⟩)
  | dropped (b : Byte) (h : (s.port p).assembly.state = .overlong) : CharTaken p s (.data b) s
  | empty (h : (s.port p).assembly.state = .idle) : CharTaken p s .endChar s
  | short (h : (s.port p).assembly.state = .gathering) (hl : (s.port p).assembly.bytes.length < 5) :
      CharTaken p s .endChar (flagged (assembling s p ⟨.idle, []⟩) p .malformed)
  | processed (h : (s.port p).assembly.state = .gathering) (hl : 5 ≤ (s.port p).assembly.bytes.length)
      (hs : (s.port p).responses.length < 2) :
      CharTaken p s .endChar (assembling (processPacket p (s.port p).assembly.bytes s) p ⟨.idle, []⟩)
  | waits (h : (s.port p).assembly.state = .gathering) (hl : 5 ≤ (s.port p).assembly.bytes.length)
      (hs : 2 ≤ (s.port p).responses.length) :
      CharTaken p s .endChar (assembling s p ⟨.waiting, (s.port p).assembly.bytes⟩)
  | long (h : (s.port p).assembly.state = .overlong) :
      CharTaken p s .endChar (flagged (assembling s p ⟨.idle, []⟩) p .malformed)
  | failed (h : (s.port p).assembly.state ≠ .waiting) :
      CharTaken p s .failChar (flagged (assembling s p ⟨.idle, []⟩) p .truncated)

/-- The drain of a port's receive buffer (R182): characters leave its head one after another, each by CharTaken,
until the buffer is empty or a complete packet waits for a response slot. -/
inductive Drained (p : PortId) : State → State → Prop where
  | empty (s : State) (h : (s.port p).rx = []) : Drained p s s
  | held (s : State) (h : (s.port p).assembly.state = .waiting) : Drained p s s
  | take (s t u : State) (c : RxChar) (rest : List RxChar) (hw : (s.port p).assembly.state ≠ .waiting)
      (hr : (s.port p).rx = c :: rest) (ht : CharTaken p (s.setPort p { s.port p with rx := rest }) c t)
      (hd : Drained p t u) : Drained p s u

/-- The character is DATA. -/
def RxChar.isData : RxChar → Bool
  | .data _ => true
  | .endChar => false
  | .failChar => false

/-- What an error keeps of a receive buffer (R180 step 4): the characters up to and including the last END or
FAIL. -/
def keptChars (rx : List RxChar) : List RxChar := (rx.reverse.dropWhile RxChar.isData).reverse

/-- A port holds a partial packet, which a link fault cuts off (R134). -/
abbrev partialPacket (p : Port) : Prop := p.assembly.state = .gathering ∨ p.assembly.state = .overlong

/-- Port p enters QUIET by an error (R180): counts 0, holdoff 20 microseconds, the buffer trimmed, a partial packet
discarded, with TRUNCATED when either cuts a packet off (R134). Nothing else changes; `wire` is the model's own field
(log entry 9). -/
structure QuietEntered (p : PortId) (s t : State) : Prop where
  frame : t = { s with ports := t.ports, status := t.status }
  others : ∀ k, k ≠ p → t.port k = s.port k ∧ t.stat k = s.stat k
  port : t.port p = { s.port p with
    link := .quiet, rx := keptChars (s.port p).rx, outstanding := 0, credit := 0, idleSent := false,
    holdoff := some 20000, handshake := none, disconnect := none, wire := none,
    assembly := if partialPacket (s.port p) then ⟨.idle, []⟩ else (s.port p).assembly }
  status : t.stat p =
    if keptChars (s.port p).rx ≠ (s.port p).rx ∨ partialPacket (s.port p)
    then (s.stat p).setFlag .truncated else s.stat p

/-- A port in UP after LINK_ERROR is set and the packet in transmission and the response queue are lost, with
NOTICE_LOST for a notice (R179, R181). -/
def afterLosses (p : PortId) (s : State) : State :=
  let t := flagged s p .linkError
  (if (s.port p).sendsNotice = true then flagged t p .noticeLost else t).setPort p
    { s.port p with tx := none, responses := [] }

/-- A GRANT is owed (R183): in HANDSHAKE or UP, free places less the outstanding grant are 8 or more. -/
def owed (p : Port) : Prop := p.rx.length + p.outstanding + 8 ≤ 32

/-! ### Invariants -/

/-- A port keeps its flow-control laws: buffer and outstanding grant within 32 places (R171, R183), transmit
credit within 64 (R184), responses within two slots (R146), 24 bytes of assembly (R130), and counts of 0 with
no grant in OFF, QUIET and LISTEN (R172, R174, R180). -/
structure PortFlow (p : Port) : Prop where
  places : p.rx.length + p.outstanding ≤ 32
  credit : p.credit ≤ 64
  slots : p.responses.length ≤ 2
  gathered : p.assembly.bytes.length ≤ 24
  withdrawn : p.link = .off ∨ p.link = .quiet ∨ p.link = .listen → p.outstanding = 0 ∧ p.credit = 0

/-- A port's deadlines and transmission stand with its link state (R171): holdoff exactly in QUIET, handshake
exactly in HANDSHAKE, disconnect exactly in HANDSHAKE and UP, and a packet in transmission in UP alone. -/
structure PortDeadlines (p : Port) : Prop where
  holdoff : p.holdoff.isSome = true ↔ p.link = .quiet
  handshake : p.handshake.isSome = true ↔ p.link = .handshake
  disconnect : p.disconnect.isSome = true ↔ p.link = .handshake ∨ p.link = .up
  sending : p.tx.isSome = true → p.link = .up

/-- Every port keeps its flow-control laws. -/
def FlowInv (s : State) : Prop := ∀ p, PortFlow (s.port p)

/-- Every port's deadlines stand with its link state while RSTN is released. -/
def LinkInv (s : State) : Prop := ∀ p, PortDeadlines (s.port p)

/-- No two notices of a queue have the same subject key. -/
def distinctKeys (q : List Notice) : Prop := q.Pairwise fun a b => a.key ≠ b.key

/-- The four notification queues (R154, R163): at most 8 entries, no two with one key. -/
def QueueInv (s : State) : Prop :=
  ∀ m, (s.stat m).queue.length ≤ 8 ∧ distinctKeys (s.stat m).queue

/-- The master records (R86, R89, R93): a deadline exactly while PRESENT, a source address while PRESENT, and
for an ABSENT master no subscription and no waiting notice. -/
structure MasterLaw (s : State) (m : MasterId) : Prop where
  deadline : (s.master m).deadline.isSome = true ↔ (s.master m).presence = .present
  address : (s.master m).presence = .present → (s.master m).lastSource.isSome = true
  silent : (s.master m).presence = .absent → (s.stat m).mask = 0#6 ∧ (s.stat m).queue = []

/-- Every master record keeps its law. -/
def MasterInv (s : State) : Prop := ∀ m, MasterLaw s m

/-- A line record agrees with its policy and its feedback check (R3, R4, R57, R59, R76). -/
structure LineLaw (l : Line) : Prop where
  shared : l.cfg.policy = .shared → (l.commanded = .active ↔ l.asserted ≠ 0#4)
  unshared : l.cfg.policy ≠ .shared → l.asserted = 0#4
  leased : l.cfg.policy ≠ .leased → l.owner = none
  unowned : l.cfg.policy = .leased → l.owner = none → l.commanded = .released
  fixed : l.cfg.policy = .fixed → l.commanded = .released
  lease : l.lease.isSome = l.owner.isSome
  pulse : l.pulse.isSome = true →
    l.commanded = .active ∧ (l.cfg.policy = .leased ∨ l.cfg.policy = .quorum)
  off : l.feedback = .off ↔ l.cfg.feedback = false
  settle : l.feedback = .settling ↔ l.settle.isSome = true

/-- The Line Table and the entries on lines: each record keeps its law, its configuration part is the current
configuration's (R2, R106), no pulse runs under HOLD (R71), an entry on a line finds the QUORUM policy (R26,
R47), and the table holds at most 12 entries, no two with one id or with one line as subject (R20, R21,
R23). -/
structure LineInv (s : State) : Prop where
  law : ∀ n, LineLaw (s.line n)
  copy : s.rstn = .high → ∀ n, (s.line n).cfg = s.config.line n
  held : s.hold.qualified = .asserted → ∀ n, (s.line n).pulse = none
  quorum : ∀ e ∈ s.table, ∀ n, e.subject = .line n → (s.line n).cfg.policy = .quorum
  alone : s.table.Pairwise fun a b => ∀ n, a.subject = .line n → b.subject ≠ .line n
  size : s.table.length ≤ 12
  ids : s.table.Pairwise fun a b => a.id ≠ b.id

/-- Who may hold what (R21, R57, R59, R109): assertions, leases, votes and the session belong to eligible
masters alone. -/
structure HoldersEligible (s : State) : Prop where
  assertions : ∀ n m, hasBit (s.line n).asserted m.val = true → s.eligible m = true
  owners : ∀ n m, (s.line n).owner = some m → s.eligible m = true
  voters : ∀ e ∈ s.table, ∀ m : MasterId, hasBit e.voters m.val = true → s.eligible m = true
  session : ∀ m, s.session.owner? = some m → s.eligible m = true

/-- An entry of the table is well formed (R20, R22, R23, R27, R43): a legal pairing, a non-empty voter set, an id
that is not 0, its count below the required count unless it is READY, READY only for an ASSERT or PULSE on a
line under HOLD, and a target that is no voter. -/
structure EntryLaw (s : State) (e : Entry) : Prop where
  pairing : pairing e.subject e.action = true
  voters : e.voters ≠ 0#4
  id : e.id ≠ 0#8
  count : e.state = .voting → e.count < e.required.toNat
  ready : e.state = .ready → s.hold.qualified = .asserted ∧ e.activates = true
  target : ∀ m : MasterId, e.subject = .master m → hasBit e.voters m.val = false
  quarantine : ∀ m, e.subject = .master m → ((s.master m).quarantined = true ↔ e.action = .reinstate)

/-- The decision state of the part: the line table, who holds what, the proposal table and its APPLY entry,
which stands exactly while the session is in VOTING and holds its revision (R109). -/
structure DecisionInv (s : State) : Prop where
  lines : LineInv s
  holders : HoldersEligible s
  entries : ∀ e ∈ s.table, EntryLaw s e
  subjects : s.table.Pairwise fun a b => a.subject ≠ b.subject
  counter : s.nextId ≠ 0#8
  apply : ∀ e ∈ s.table, e.subject = .config →
    ∃ o sh rev, s.session = .voting o sh rev ∧ e.revision = some rev
  voting : ∀ o sh rev, s.session = .voting o sh rev → ∃ e ∈ s.table, e.subject = .config
  unquarantined : ∃ m, (s.master m).quarantined = false

end Sys2Proof.Machine
end

