-- ==== Sys2Proof/Certificates/Slice0/Obligations.lean ====
section
/-! DEFINITION. The statements for the provers. Each docstring names the rules of spec/ that the statement rests
on; OBLIGATIONS.json lists them. -/

open Sys2Proof Sys2Proof.Machine

/-! ### The queue of commands -/

/-- A step takes the command at the front of the queue and runs it on the state with the rest of the queue. -/
def Obligations.StepTakesTheFrontCommand : Prop :=
  ∀ (c : Instr) (rest : List Instr) (s : State),
    step { s with pending := c :: rest } = exec c { s with pending := rest }

/-- No command touches the queue of commands. -/
def Obligations.ExecKeepsTheQueue : Prop :=
  ∀ (c : Instr) (s t : State), exec c s = .next t → t.pending = s.pending

/-- Every command answers a next state, but for a TRANSMIT_CHARACTER that is to begin a notice for a master
whose source address is absent (R89 says that this need never arises). -/
def Obligations.ExecStopsOnlyWithoutAnAddress : Prop :=
  ∀ (c : Instr) (s : State), (∃ t, exec c s = .next t) ∨
    ∃ p, c = .transmitCharacter p ∧ exec c s = .fault .noticeWithoutAddress ∧
      (s.port p).link = .up ∧ (s.port p).responses = [] ∧ (s.stat p).queue ≠ [] ∧
      (s.master p).lastSource = none

/-! ### Resets and the time base -/

/-- RSTN_RELEASED leaves every record at its pin-reset value, with the levels it samples (R1, R12, R18, R49,
R104, R107, R109, R152, R168, R190). That it does so from every state, one with RSTN already released included, is
the model's choice (log entry 1). -/
def Obligations.RstnReleasedGivesThePinResetState : Prop :=
  ∀ (cfgsel : Level) (adrs : Byte) (holdPin : Level) (fbkPins : W16) (s : State),
    ∃ t, exec (.rstnReleased cfgsel adrs holdPin fbkPins) s = .next t ∧
      t.rstn = .high ∧ t.count = 0#32 ∧ t.linkAddress = adrs ∧
      t.hold = ⟨holdPin, (if holdPin = .high then .asserted else .released), none⟩ ∧
      (∀ n : LineId, t.input n = if fbkPins.getLsbD n.val then .high else .low) ∧
      (∀ n : LineId, t.config.line n =
        ⟨(if cfgsel = .low then .quorum else .shared), 2#8, .low, 1000#16, 10000#16, false, 20#8⟩) ∧
      t.config.globals = ⟨1000#16, 5000#16, 2#8, 3#8, 2#8, 0xF#4⟩ ∧
      (∀ n : LineId, t.line n = ⟨t.config.line n, .released, 0#4, none, none, none, .off, none⟩ ∧
        t.pinLevel n = .low) ∧
      t.generation = 0#16 ∧ t.session = .none ∧ t.table = [] ∧ t.nextId = 1#8 ∧
      (∀ m, t.master m = ⟨.absent, none, false, none⟩ ∧ t.stat m = ⟨1#11, 0#6, [], 0#8⟩) ∧
      t.lastRestart = .pin ∧
      (∀ p, (t.port p).link = (if adrs = 0#8 ∨ adrs = 255#8 then .off else .quiet) ∧
        (t.port p).holdoff = (if adrs = 0#8 ∨ adrs = 255#8 then none else some 20000) ∧
        (t.port p).rx = [] ∧ (t.port p).outstanding = 0 ∧ (t.port p).credit = 0 ∧
        (t.port p).tx = none ∧ (t.port p).idleSent = false ∧ (t.port p).handshake = none ∧
        (t.port p).disconnect = none ∧ (t.port p).assembly = ⟨.idle, []⟩ ∧
        (t.port p).responses = [] ∧ (t.port p).stored.valid = false) ∧
      t.pending = s.pending

/-- RSTN_ASSERTED drives every output LOW and silences every port (R18, R190); what each record holds from there
to the release is the model's choice (log entry 5), and so is that every other command but the pin commands and
the time base then has no effect; the field `wire` of a port is the model's own (log entry 9). -/
def Obligations.RstnAssertedHoldsThePartInReset : Prop :=
  ∀ s : State,
    (∃ t, exec .rstnAsserted s = .next t ∧ t.rstn = .low ∧ (∀ n, t.pinLevel n = .low) ∧
      (∀ n, t.line n = { s.line n with
        commanded := .released, asserted := 0#4, owner := none, lease := none, pulse := none }) ∧
      t.table = [] ∧ t.nextId = 1#8 ∧ t.session = .none ∧ t.lastRestart = .pin ∧
      (∀ m, t.master m = ⟨.absent, none, false, none⟩ ∧ t.stat m = ⟨1#11, 0#6, [], 0#8⟩) ∧
      (∀ p, (t.port p).link = .off ∧ (t.port p).wire = none ∧ (t.port p).rx = [] ∧
        (t.port p).tx = none ∧ (t.port p).responses = [] ∧ (t.port p).assembly = ⟨.idle, []⟩ ∧
        (t.port p).stored.valid = false) ∧
      t.count = s.count ∧ t.config = s.config ∧ t.generation = s.generation ∧ t.fbk = s.fbk ∧
      t.linkAddress = s.linkAddress ∧ t.hold = { s.hold with measuring := none } ∧
      t.pending = s.pending) ∧
    ∀ c : Instr, s.rstn = .low → c ≠ .rstnAsserted → c ≠ .millisecondCountAdvance →
      (∀ a b h f, c ≠ .rstnReleased a b h f) → (∀ l, c ≠ .holdInputChange l) →
      (∀ n l, c ≠ .feedbackInputChange n l) → exec c s = .next s

/-- R1, whole: the count advances by one modulo 2^32, is 0 at the release of RSTN and kept by a commanded
restart; a deadline set d ms from now is reached when the count less the count of its setting reaches d. What a
result reports of a deadline: the deadline less the count; 1 ms once it is reached and not yet taken; 0 when it is
absent (R17, R52, R54, R75; how a deadline is held is log entry 12). -/
def Obligations.TheMillisecondCount : Prop :=
  (∀ s : State, exec .millisecondCountAdvance s = .next { s with count := s.count + 1#32 }) ∧
  (∀ s : State, s.count = 4294967295#32 →
    ∃ t, exec .millisecondCountAdvance s = .next t ∧ t.count = 0#32) ∧
  (∀ cfgsel adrs holdPin fbkPins s,
    ∃ t, exec (.rstnReleased cfgsel adrs holdPin fbkPins) s = .next t ∧ t.count = 0#32) ∧
  (∀ s : State, (commandedRestart s).count = s.count) ∧
  (∀ (s : State) (d : W16) (now : W32),
    (s.deadlineIn d).reached now = true ↔ d.toNat ≤ (now - s.count).toNat) ∧
  (∀ (s : State) (d : W16) (now : W32), (now - s.count).toNat < d.toNat →
    ((s.deadlineIn d).remaining now).toNat = d.toNat - (now - s.count).toNat) ∧
  (∀ (s : State) (d : W16) (now : W32), d.toNat ≤ (now - s.count).toNat →
    (s.deadlineIn d).remaining now = 1#16) ∧
  ∀ now : W32, remainingOf none now = 0#16 ∧ ∀ d : Deadline, remainingOf (some d) now = d.remaining now

/-! ### Lines -/

/-- R5, whole: the output pin of a running part carries the active level only while HOLD is not asserted, the
policy is not FIXED and the commanded state is ACTIVE, otherwise the safe level. -/
def Obligations.ThePinCarriesTheDrivenLevel : Prop :=
  ∀ (s : State) (n : LineId), s.rstn = .high →
    s.pinLevel n =
      if s.hold.qualified ≠ .asserted ∧ (s.line n).cfg.policy ≠ .fixed ∧ (s.line n).commanded = .active
      then opposite (s.line n).cfg.safe
      else (s.line n).cfg.safe

/-- CLAIM_LINE on a LEASED line with no owner or from its owner, and RENEW_LEASE from its owner, set the owner and
the lease deadline, and nothing else of the line (R60, R61). -/
def Obligations.ClaimAndRenewSetTheLease : Prop :=
  ∀ (p : PortId) (src tag : Byte) (n : LineId) (d : W16) (s : State),
    (s.master p).quarantined = false → (s.line n).cfg.policy = .leased →
    10 ≤ d.toNat → d.toNat ≤ (s.line n).cfg.leaseMax.toNat →
    (((s.line n).owner = none ∨ (s.line n).owner = some p) →
      Served p src tag .claimLine (lineByte n :: wordBytes d) s →
      ∃ u, exec (.claimLine p src tag (lineByte n) d) s = .next u ∧
        RequestTaken p src tag .claimLine (lineByte n :: wordBytes d)
          (fun r t => t = r.setLine n { r.line n with owner := some p, lease := some ⟨r.count, d⟩ })
          (fun _ t => ⟨.done, nineBytes t n⟩) s u) ∧
    ((s.line n).owner = some p →
      Served p src tag .renewLease (lineByte n :: wordBytes d) s →
      ∃ u, exec (.renewLease p src tag (lineByte n) d) s = .next u ∧
        RequestTaken p src tag .renewLease (lineByte n :: wordBytes d)
          (fun r t => t = r.setLine n { r.line n with lease := some ⟨r.count, d⟩ })
          (fun _ t => ⟨.done, nineBytes t n⟩) s u)

/-- RELINQUISH_LINE from the owner ends the lease with reason RELINQUISHED and cause DIRECT (R64, R66). -/
def Obligations.RelinquishEndsTheLease : Prop :=
  ∀ (p : PortId) (src tag : Byte) (n : LineId) (s : State),
    Served p src tag .relinquishLine [lineByte n] s →
    (s.master p).quarantined = false → (s.line n).cfg.policy = .leased → (s.line n).owner = some p →
    ∃ u, exec (.relinquishLine p src tag (lineByte n)) s = .next u ∧
      RequestTaken p src tag .relinquishLine [lineByte n]
        (fun r t => LeaseEnds n p .relinquished .direct r t)
        (fun _ t => ⟨.done, nineBytes t n⟩) s u

/-- ASSERT_LINE and RELEASE_LINE on a SHARED line (R55, R56) and from the owner of a LEASED line (R62), each one
claim with cause DIRECT; ASSERT_LINE while HOLD is released. -/
def Obligations.AssertAndReleaseChangeTheLine : Prop :=
  ∀ (p : PortId) (src tag : Byte) (n : LineId) (s : State), (s.master p).quarantined = false →
    ((s.line n).cfg.policy = .shared → s.hold.qualified = .released →
      Served p src tag .assertLine [lineByte n] s →
      ∃ u, exec (.assertLine p src tag (lineByte n)) s = .next u ∧
        RequestTaken p src tag .assertLine [lineByte n]
          (ClaimTaken n .direct fun l =>
            { l with asserted := addBit l.asserted p.val, commanded := .active })
          (fun _ t => ⟨.done, nineBytes t n⟩) s u) ∧
    ((s.line n).cfg.policy = .shared → Served p src tag .releaseLine [lineByte n] s →
      ∃ u, exec (.releaseLine p src tag (lineByte n)) s = .next u ∧
        RequestTaken p src tag .releaseLine [lineByte n]
          (ClaimTaken n .direct fun l =>
            { l with
              asserted := removeBit l.asserted p.val
              commanded := if removeBit l.asserted p.val = 0#4 then .released else .active })
          (fun _ t => ⟨.done, nineBytes t n⟩) s u) ∧
    ((s.line n).cfg.policy = .leased → (s.line n).owner = some p → s.hold.qualified = .released →
      Served p src tag .assertLine [lineByte n] s →
      ∃ u, exec (.assertLine p src tag (lineByte n)) s = .next u ∧
        RequestTaken p src tag .assertLine [lineByte n]
          (ClaimTaken n .direct fun l => { l with commanded := .active, pulse := none })
          (fun _ t => ⟨.done, nineBytes t n⟩) s u) ∧
    ((s.line n).cfg.policy = .leased → (s.line n).owner = some p →
      Served p src tag .releaseLine [lineByte n] s →
      ∃ u, exec (.releaseLine p src tag (lineByte n)) s = .next u ∧
        RequestTaken p src tag .releaseLine [lineByte n]
          (ClaimTaken n .direct fun l => { l with commanded := .released, pulse := none })
          (fun _ t => ⟨.done, nineBytes t n⟩) s u)

/-- PULSE_LINE from the owner of a LEASED line while HOLD is released commands the line ACTIVE with a pulse
deadline d ms from now, in one claim with cause DIRECT (R63, R71). -/
def Obligations.PulseLineStartsAPulse : Prop :=
  ∀ (p : PortId) (src tag : Byte) (n : LineId) (d : W16) (s : State),
    Served p src tag .pulseLine (lineByte n :: wordBytes d) s →
    (s.master p).quarantined = false → (s.line n).cfg.policy = .leased → (s.line n).owner = some p →
    1 ≤ d.toNat → d.toNat ≤ (s.line n).cfg.pulseMax.toNat → s.hold.qualified = .released →
    ∃ u, exec (.pulseLine p src tag (lineByte n) d) s = .next u ∧
      RequestTaken p src tag .pulseLine (lineByte n :: wordBytes d)
        (fun r t => ClaimTaken n .direct
          (fun l => { l with commanded := .active, pulse := some ⟨r.count, d⟩ }) r t)
        (fun _ t => ⟨.done, nineBytes t n⟩) s u

/-- R53, whole: a direct request is checked in the order of the table, the first failing check decides, a
refusal changes nothing of the line, the flags or the queues beyond the renewal, a request that passes every
check is answered DONE with the nine bytes of the line result after a claim on that line alone, and a line number
above 15 is refused with RANGE at decode. -/
def Obligations.DirectRequestsAreCheckedInOrder : Prop :=
  ∀ (p : PortId) (src tag : Byte) (d : W16) (s : State) (c : Instr) (code : RequestCode)
    (params : List Byte),
    Served p src tag code params s →
    (∀ (n : LineId) (st : Status) (res : List Byte),
      (c, code, params) ∈ directRequests p src tag (lineByte n) d →
      directRefusal s p n code d = some (st, res) →
      ∃ u, exec c s = .next u ∧ RequestRefused p src tag code params st (fun _ => res) s u) ∧
    (∀ n : LineId, (c, code, params) ∈ directRequests p src tag (lineByte n) d →
      directRefusal s p n code d = none →
      ∃ u, exec c s = .next u ∧
        RequestTaken p src tag code params
          (fun r t => t = { r with lines := t.lines, status := t.status } ∧
            ∀ k, k ≠ n → t.line k = r.line k)
          (fun _ t => ⟨.done, nineBytes t n⟩) s u) ∧
    (∀ line : Byte, 16 ≤ line.toNat → (c, code, params) ∈ directRequests p src tag line d →
      ∃ u, exec c s = .next u ∧ RequestRefused p src tag code params .range (fun _ => []) s u)

/-- PULSE_DEADLINE reached releases the line with cause PULSE_END and keeps the lease (R72); LEASE_DEADLINE
reached ends the lease with reason EXPIRED and cause LEASE_END (R66, R67). -/
def Obligations.LineDeadlinesReleaseTheLine : Prop :=
  (∀ (n : LineId) (d : Deadline) (s : State), s.rstn = .high → (s.line n).pulse = some d →
    d.reached s.count = true →
    ∃ t, exec (.pulseDeadline n) s = .next t ∧
      ClaimTaken n .pulseEnd (fun l => { l with commanded := .released, pulse := none }) s t) ∧
  ∀ (n : LineId) (m : MasterId) (d : Deadline) (s : State), s.rstn = .high →
    (s.line n).owner = some m → (s.line n).lease = some d → d.reached s.count = true →
    ∃ t, exec (.leaseDeadline n) s = .next t ∧ LeaseEnds n m .expired .leaseEnd s t

/-- A deadline command whose deadline is absent or not reached has no effect (the model's choice, log entry 3;
R1 says when a deadline is reached). -/
def Obligations.DeadlinesNotReachedChangeNothing : Prop :=
  ∀ s : State,
    (∀ n, (∀ d, (s.line n).pulse = some d → d.reached s.count = false) →
      exec (.pulseDeadline n) s = .next s) ∧
    (∀ n, (∀ d, (s.line n).lease = some d → d.reached s.count = false) →
      exec (.leaseDeadline n) s = .next s) ∧
    (∀ n, (∀ d, (s.line n).settle = some d → d.reached s.count = false) →
      exec (.settleDeadline n) s = .next s) ∧
    (∀ m, (∀ d, (s.master m).deadline = some d → d.reached s.count = false) →
      exec (.presenceDeadline m) s = .next s) ∧
    (∀ id, (∀ e ∈ s.table, e.id = id → e.deadline.reached s.count = false) →
      exec (.entryDeadline id) s = .next s) ∧
    ((∀ o sh rev d, s.session = .editing o sh rev d → d.reached s.count = false) →
      exec .idleDeadline s = .next s)

/-! ### Feedback and HOLD -/

/-- SETTLE_DEADLINE reached compares the input with the driven level: MATCH without a notice, or MISMATCH with
FEEDBACK_FAULT and FEEDBACK (R78, R80, R81). -/
def Obligations.SettleDeadlineCompares : Prop :=
  ∀ (n : LineId) (d : Deadline) (s : State), s.rstn = .high → (s.line n).settle = some d →
    d.reached s.count = true →
    (s.input n = s.driven n →
      exec (.settleDeadline n) s =
        .next (s.setLine n { s.line n with feedback := .matching, settle := none })) ∧
    (s.input n ≠ s.driven n →
      ∃ t, exec (.settleDeadline n) s = .next t ∧ EntersMismatch n s t)

/-- A change of the input FBKn has no effect on the line in OFF and SETTLING, takes MATCH to MISMATCH, and takes
MISMATCH to MATCH with FEEDBACK (R79, R80, R81). -/
def Obligations.FeedbackInputChangeReversesTheComparison : Prop :=
  ∀ (n : LineId) (level : Level) (s s' : State), s.rstn = .high → level ≠ s.input n →
    s' = { s with fbk := s.fbk.set n.val level n.isLt } →
    ((s.line n).feedback = .off ∨ (s.line n).feedback = .settling →
      exec (.feedbackInputChange n level) s = .next s') ∧
    ((s.line n).feedback = .matching →
      ∃ t, exec (.feedbackInputChange n level) s = .next t ∧ EntersMismatch n s' t) ∧
    ((s.line n).feedback = .mismatch →
      ∃ t, exec (.feedbackInputChange n level) s = .next t ∧
        t = { s' with lines := t.lines, status := t.status } ∧
        (∀ k, k ≠ n → t.line k = s.line k) ∧
        t.line n = { s.line n with feedback := .matching } ∧
        ∀ m, t.stat m = noticed s m (.feedback n .matching (s.driven n) level) (s.stat m))

/-- A change of the raw HOLD input starts the 1 ms measurement anew while the raw level is opposite the qualified
level, and ends it when the disturbance has returned; nothing else changes (R11). -/
def Obligations.HoldInputChangeRestartsTheMeasurement : Prop :=
  ∀ (level : Level) (s : State), s.rstn = .high → level ≠ s.hold.raw →
    exec (.holdInputChange level) s = .next { s with
      hold := ⟨level, s.hold.qualified,
        if (level = .high ↔ s.hold.qualified = .asserted) then none else some 1000⟩ }

/-- HOLD_ASSERTED: every pulse ends, every line is driven safe and each changed line reports cause HOLD in
ascending order, HOLD_SEEN is set for all masters, HOLD_CHANGED is raised last (R13). Entries, sessions, owners
and assertion sets are kept. -/
def Obligations.HoldAssertedDrivesEveryLineSafe : Prop :=
  ∀ s : State, s.rstn = .high → s.hold.raw = .high → s.hold.qualified = .released →
    ∃ t, exec .holdAsserted s = .next t ∧
      t = { s with hold := ⟨.high, .asserted, none⟩, lines := t.lines, status := t.status } ∧
      (∀ n, t.driven n = (s.line n).cfg.safe) ∧
      (∀ n, t.line n =
        if s.driven n ≠ (s.line n).cfg.safe then settling s.count (unpulsed (s.line n))
        else unpulsed (s.line n)) ∧
      ∀ m, t.stat m =
        noticed s m (.holdChanged .asserted)
          ((holdNotices s m (fun n => s.driven n ≠ (s.line n).cfg.safe)
            (fun n => .lineChanged n (s.line n).cfg.safe (unpulsed (s.line n)).commanded .hold)
            (s.stat m)).setFlag .holdSeen)

/-- HOLD_RELEASED with no READY entry: each line commanded ACTIVE under a policy other than FIXED returns to its
active level and reports cause HOLD in ascending order, then HOLD_CHANGED is raised (R15). -/
def Obligations.HoldReleasedReturnsTheLines : Prop :=
  ∀ s : State, s.rstn = .high → s.hold.raw = .low → s.hold.qualified = .asserted →
    (∀ e ∈ s.table, e.state ≠ .ready) →
    ∃ t, exec .holdReleased s = .next t ∧
      t = { s with hold := ⟨.low, .released, none⟩, lines := t.lines, status := t.status } ∧
      (∀ n, t.line n =
        if (s.line n).cfg.policy ≠ .fixed ∧ (s.line n).commanded = .active
        then settling s.count (s.line n) else s.line n) ∧
      ∀ m, t.stat m =
        noticed s m (.holdChanged .released)
          (holdNotices s m
            (fun n => (s.line n).cfg.policy ≠ .fixed ∧ (s.line n).commanded = .active)
            (fun n => .lineChanged n (opposite (s.line n).cfg.safe) .active .hold) (s.stat m))

/-- HOLD_RELEASED, whole (R15, R38, R39, R44, R51): no READY entry remains and the other entries keep their order;
each line commanded ACTIVE under a policy other than FIXED returns to its active level; the line of each READY entry
is commanded ACTIVE (for PULSE with its duration from now), and every other field of a line record is kept but for
settling on a change of driven level. Each master is told, in this order: LINE_CHANGED with cause HOLD line by line;
for each READY entry in table order LINE_CHANGED with cause PROPOSAL when its line was RELEASED, and PROPOSAL_ENDED
CARRIED; HOLD_CHANGED last. Nothing else changes. -/
def Obligations.HoldReleasedCarriesTheReadyEntries : Prop :=
  ∀ s : State, s.rstn = .high → s.hold.raw = .low → s.hold.qualified = .asserted → DecisionInv s →
    ∃ t, exec .holdReleased s = .next t ∧
      t = { s with
        hold := ⟨.low, .released, none⟩, lines := t.lines, status := t.status,
        table := s.table.filter (fun e => e.state ≠ .ready) } ∧
      (∀ n, t.line n = releasedLine s n) ∧
      (∀ m, t.stat m = told s m (holdReleaseNotices s) (s.stat m)) ∧
      (∀ n, (t.line n).asserted = (s.line n).asserted ∧ (t.line n).owner = (s.line n).owner ∧
        (t.line n).lease = (s.line n).lease ∧ (t.line n).cfg = (s.line n).cfg) ∧
      (∀ e ∈ s.table, e.state = .ready → ∀ n, e.subject = .line n →
        (t.line n).commanded = .active ∧ t.driven n = opposite (s.line n).cfg.safe ∧
        (t.line n).pulse =
          if e.action = .pulse then some ⟨s.count, e.duration.getD 0#16⟩ else none) ∧
      ∀ n, (∀ e ∈ s.table, e.state = .ready → e.subject ≠ .line n) →
        (t.line n).commanded = (s.line n).commanded ∧ (t.line n).pulse = (s.line n).pulse

/-! ### Proposals -/

/-- A valid PROPOSE on a subject that no entry has, with a required count above 1 and a place in the table, opens
an entry and is answered VOTED with its id, 1 and the required count (R29, R34, R50). -/
def Obligations.ProposeOpensAnEntry : Prop :=
  ∀ (p : PortId) (src tag index : Byte) (sub : Subject) (act : Action) (arg : W16) (s : State),
    pairing sub act = true → indexSpells index sub →
    Served p src tag .propose (proposalParams sub index act arg) s →
    (s.master p).quarantined = false → proposalValid s p act arg sub →
    s.entryOn sub = none → s.table.length < 12 →
    2 ≤ (freshEntry s s.freeId p sub act arg).required.toNat →
    ∃ u, exec (.propose p src tag sub.kindByte index act.byte arg) s = .next u ∧
      RequestTaken p src tag .propose (proposalParams sub index act arg)
        (fun r t => EntryOpens (freshEntry r s.freeId p sub act arg) r t)
        (fun r _ => ⟨.voted, [s.freeId, 1#8, (freshEntry r s.freeId p sub act arg).required]⟩) s u

/-- The id a new entry takes is the first, counting upward from the next-id counter and on to 1 after 255, that no
entry holds; it is found within twelve steps and is not 0 (R23). -/
def Obligations.TheNewIdIsTheFirstFreeOne : Prop :=
  ∀ s : State, s.table.length ≤ 11 → s.nextId ≠ 0#8 →
    s.freeId ≠ 0#8 ∧ (∀ e ∈ s.table, e.id ≠ s.freeId) ∧
    ∃ k < 12, s.freeId = Nat.repeat (fun i => if i = 255#8 then 1#8 else i + 1#8) k s.nextId ∧
      ∀ j < k, ∃ e ∈ s.table, e.id = Nat.repeat (fun i => if i = 255#8 then 1#8 else i + 1#8) j s.nextId

/-- A PROPOSE that is a vote: ALREADY_VOTED for a voter, with no effect; VOTED while the count stays below the
required count; READY for an entry that is READY already. The entry keeps its place and its deadline (R30, R31,
R34). -/
def Obligations.VotesAreCounted : Prop :=
  ∀ (p : PortId) (src tag index : Byte) (sub : Subject) (act : Action) (arg : W16) (e : Entry) (s : State),
    pairing sub act = true → indexSpells index sub →
    Served p src tag .propose (proposalParams sub index act arg) s → VotesFor s p sub act arg e →
    (hasBit e.voters p.val = true →
      ∃ u, exec (.propose p src tag sub.kindByte index act.byte arg) s = .next u ∧
        RequestRefused p src tag .propose (proposalParams sub index act arg) .alreadyVoted
          (fun _ => [e.id, byteOf e.count, e.required]) s u) ∧
    (hasBit e.voters p.val = false → e.state = .voting →
      (withVote p e).count < e.required.toNat →
      ∃ u, exec (.propose p src tag sub.kindByte index act.byte arg) s = .next u ∧
        RequestTaken p src tag .propose (proposalParams sub index act arg)
          (fun r t => t = replaced r (withVote p e))
          (fun _ _ => ⟨.voted, [e.id, byteOf (withVote p e).count, e.required]⟩) s u) ∧
    (hasBit e.voters p.val = false → e.state = .ready →
      ∃ u, exec (.propose p src tag sub.kindByte index act.byte arg) s = .next u ∧
        RequestTaken p src tag .propose (proposalParams sub index act arg)
          (fun r t => t = replaced r (withVote p e))
          (fun _ _ => ⟨.ready, [e.id, byteOf (withVote p e).count, e.required]⟩) s u)

/-- The PROPOSE that brings a LINE entry to its count while HOLD is released, or a RELEASE entry at any time,
carries it: the line changes in one claim with cause PROPOSAL, then the entry leaves CARRIED. The count is reached
by a vote, by an entry that opens under a quorum of 1, or by a supersession under a quorum of 1 (R29, R30, R32,
R38, R39). -/
def Obligations.LineEntriesAreCarried : Prop :=
  ∀ (p : PortId) (src tag : Byte) (n : LineId) (act : Action) (arg : W16) (e : Entry)
    (reached : State → State → Prop) (s : State),
    pairing (.line n) act = true →
    Served p src tag .propose (proposalParams (.line n) (lineByte n) act arg) s →
    CountReached s p (.line n) act arg e reached →
    s.hold.qualified = .released ∨ act = .release →
    ∃ u, exec (.propose p src tag 0#8 (lineByte n) act.byte arg) s = .next u ∧
      RequestTaken p src tag .propose (proposalParams (.line n) (lineByte n) act arg)
        (fun r t => ∃ x y, reached r x ∧ ClaimTaken n .proposal (carriedLine r.count e) x y ∧
          EntryEnds e .carried y t)
        (fun _ _ => ⟨.carried, [e.id, byteOf e.count, e.required]⟩) s u

/-- While HOLD is asserted the PROPOSE that brings an ASSERT or PULSE entry to its count makes it READY: by a vote,
by an entry that opens under a quorum of 1, or by a supersession under a quorum of 1. The entry keeps its place and
its deadline, and becoming READY raises no notice (R29, R30, R32, R43). -/
def Obligations.EntriesBecomeReadyUnderHold : Prop :=
  ∀ (p : PortId) (src tag : Byte) (n : LineId) (act : Action) (arg : W16) (e : Entry)
    (reached : State → State → Prop) (s : State),
    act = .assert ∨ act = .pulse → s.hold.qualified = .asserted →
    Served p src tag .propose (proposalParams (.line n) (lineByte n) act arg) s →
    CountReached s p (.line n) act arg e reached →
    ∃ u, exec (.propose p src tag 0#8 (lineByte n) act.byte arg) s = .next u ∧
      RequestTaken p src tag .propose (proposalParams (.line n) (lineByte n) act arg)
        (fun r t => ∃ x, reached r x ∧ t = replaced x { e with state := .ready })
        (fun _ _ => ⟨.ready, [e.id, byteOf e.count, e.required]⟩) s u

/-- A different proposal on a line from the sole voter of its entry supersedes it: the old entry ends SUPERSEDED,
then a new one opens last in the table with a new id (R32). -/
def Obligations.TheSoleVoterSupersedes : Prop :=
  ∀ (p : PortId) (src tag : Byte) (n : LineId) (act : Action) (arg : W16) (e : Entry) (s : State),
    pairing (.line n) act = true →
    Served p src tag .propose (proposalParams (.line n) (lineByte n) act arg) s →
    (s.master p).quarantined = false → proposalValid s p act arg (.line n) →
    s.entryOn (.line n) = some e → differs e act arg → e.voters = onlyBit p.val →
    2 ≤ (s.config.line n).quorum.toNat →
    ∃ u id, exec (.propose p src tag 0#8 (lineByte n) act.byte arg) s = .next u ∧
      RequestTaken p src tag .propose (proposalParams (.line n) (lineByte n) act arg)
        (fun r t => ∃ x, EntryEnds e .superseded r x ∧ id = x.freeId ∧
          EntryOpens (freshEntry r id p (.line n) act arg) x t)
        (fun r _ => ⟨.voted, [id, 1#8, (r.config.line n).quorum]⟩) s u

/-- A PROPOSE that fails a check is refused with the status and the result of the first check that fails, and
changes nothing beyond the renewal (R25 to R29, R33, R34). -/
def Obligations.ProposeIsRefusedByItsChecks : Prop :=
  ∀ (p : PortId) (src tag index : Byte) (sub : Subject) (act : Action) (arg : W16) (s : State)
    (st : Status) (res : List Byte),
    pairing sub act = true → indexSpells index sub →
    Served p src tag .propose (proposalParams sub index act arg) s →
    ProposeRefused s p act arg sub st res →
    ∃ u, exec (.propose p src tag sub.kindByte index act.byte arg) s = .next u ∧
      RequestRefused p src tag .propose (proposalParams sub index act arg) st (fun _ => res) s u

/-- The PROPOSE that brings a QUARANTINE of master k to its count, by a vote or by opening under a quarantine quorum
of 1, carries it: k is marked, keeps its presence, mask and source address, its QUARANTINED_EVT flag is set, with
LEASE_LOST when it owned a line, and it holds no assertion, lease, vote or session any more. Every other assertion,
lease, vote, entry and session, the QUORUM and FIXED lines and all other records are kept. The notices of the
removal are raised in their order, then MASTER_CHANGED (QUARANTINED), then the entry ends CARRIED (R29, R40, R46,
R96, R97, R103). -/
def Obligations.QuarantineTakesAllThatTheTargetHolds : Prop :=
  ∀ (p : PortId) (src tag : Byte) (k : MasterId) (arg : W16) (e : Entry) (reached : State → State → Prop)
    (s : State), DecisionInv s →
    Served p src tag .propose (proposalParams (.master k) (masterByte k) .quarantine arg) s →
    CountReached s p (.master k) .quarantine arg e reached →
    ∃ u, exec (.propose p src tag 1#8 (masterByte k) 4#8 arg) s = .next u ∧
      RequestTaken p src tag .propose (proposalParams (.master k) (masterByte k) .quarantine arg)
        (fun r t => ∃ x y, reached r x ∧ MasterRemoved k x y ∧ EntryEnds e .carried y t ∧
          y.master k = { r.master k with quarantined := true } ∧
          (∀ m, m ≠ k → y.master m = r.master m) ∧
          (∀ m, y.stat m =
            let r1 := told x m (removalNotices x k .quarantine .quarantine ++
              [.masterChanged k .quarantined (r.master k).presence true]) (x.stat m)
            let r2 := if m = k ∧ ownsALine r k then r1.setFlag .leaseLost else r1
            if m = k then r2.setFlag .quarantinedEvt else r2) ∧
          (∀ n, hasBit (t.line n).asserted k.val = false ∧ (t.line n).owner ≠ some k) ∧
          (∀ z ∈ t.table, hasBit z.voters k.val = false ∧ z.subject ≠ .master k ∧ z.voters ≠ 0#4) ∧
          t.session.owner? ≠ some k ∧
          (∀ n, (r.line n).cfg.policy = .quorum ∨ (r.line n).cfg.policy = .fixed → t.line n = r.line n) ∧
          (∀ n m, m ≠ k → (r.line n).owner = some m → t.line n = r.line n) ∧
          (∀ n m, m ≠ k → hasBit (t.line n).asserted m.val = hasBit (r.line n).asserted m.val) ∧
          (∀ m, m ≠ k → r.session.owner? = some m → t.session.owner? = some m))
        (fun _ _ => ⟨.carried, [e.id, byteOf e.count, e.required]⟩) s u

/-- The PROPOSE that brings a REINSTATE of master k to its count, by a vote or by opening under a quarantine quorum
of 1, clears its quarantine mark and raises MASTER_CHANGED; nothing else changes, and the entry leaves the table
CARRIED (R29, R40, R101, R103). -/
def Obligations.ReinstateClearsTheMark : Prop :=
  ∀ (p : PortId) (src tag : Byte) (k : MasterId) (arg : W16) (e : Entry) (reached : State → State → Prop)
    (s : State),
    Served p src tag .propose (proposalParams (.master k) (masterByte k) .reinstate arg) s →
    CountReached s p (.master k) .reinstate arg e reached →
    ∃ u, exec (.propose p src tag 1#8 (masterByte k) 5#8 arg) s = .next u ∧
      RequestTaken p src tag .propose (proposalParams (.master k) (masterByte k) .reinstate arg)
        (fun r t => ∃ x y, reached r x ∧ y = { x with masters := y.masters, status := y.status } ∧
          y.master k = { r.master k with quarantined := false } ∧
          (∀ m, m ≠ k → y.master m = r.master m) ∧
          (∀ m, y.stat m =
            noticed x m (.masterChanged k .reinstated (r.master k).presence false) (x.stat m)) ∧
          EntryEnds e .carried y t)
        (fun _ _ => ⟨.carried, [e.id, byteOf e.count, e.required]⟩) s u

/-- The PROPOSE that brings a RESTART to its count, by a vote or by opening under a restart quorum of 1, clears the
decision state and keeps the configuration, the generation, the HOLD level, the count, the source addresses, the
sequence counters and the links; it is answered CARRIED although its master is ABSENT by then (R19, R29, R42,
R105, R153, R169). -/
def Obligations.RestartClearsTheDecisionState : Prop :=
  ∀ (p : PortId) (src tag index : Byte) (arg : W16) (e : Entry) (reached : State → State → Prop) (s : State),
    Served p src tag .propose (proposalParams .part index .restart arg) s →
    CountReached s p .part .restart arg e reached →
    ∃ t u, exec (.propose p src tag 3#8 index 7#8 arg) s = .next u ∧
      Answered p src tag .propose (proposalParams .part index .restart arg)
        ⟨.carried, [e.id, byteOf e.count, e.required]⟩ t u ∧
      t = { s with
        lines := t.lines, table := [], nextId := 1#8, session := .none, masters := t.masters,
        status := t.status, lastRestart := .commanded } ∧
      (∀ n, t.line n = appliedLine s.count (s.line n).cfg) ∧
      (∀ m, (t.master m).presence = .absent ∧ (t.master m).deadline = none ∧
        (t.master m).quarantined = false ∧
        (t.master m).lastSource = if m = p then some src else (s.master m).lastSource) ∧
      ∀ m, t.stat m = ⟨1#11, 0#6, [], (s.stat m).seq⟩

/-- The vote that carries the APPLY entry applies the frozen shadow and ends the session: the notices of the
changed lines are raised in ascending order, then CONFIG_APPLIED, with LEASE_LOST for each former owner and
NOTICE_LOST for a port that goes OFF amid a notice; then the entry leaves the table CARRIED. A COMMIT_CONFIG under
a configuration quorum of 1 does the same at once (R41, R116, R119 to R123, R188, R189). What a port going OFF
holds in the model's own field `wire` is log entry 9, and that it keeps IDLE sent is the model's choice (log entry
11). -/
def Obligations.ApplyMakesTheShadowCurrent : Prop :=
  (∀ (p : PortId) (src tag index : Byte) (arg : W16) (e : Entry) (o : MasterId) (sh : Configuration)
    (rev : W16) (s : State), DecisionInv s →
    Served p src tag .propose (proposalParams .config index .apply arg) s →
    VotesFor s p .config .apply arg e → hasBit e.voters p.val = false →
    e.required.toNat ≤ (withVote p e).count → s.session = .voting o sh rev →
    ∃ u, exec (.propose p src tag 2#8 index 6#8 arg) s = .next u ∧
      RequestTaken p src tag .propose (proposalParams .config index .apply arg)
        (fun r t => ∃ y, Applied sh rev (replaced r (withVote p e)) y ∧ EntryEnds (withVote p e) .carried y t)
        (fun _ _ => ⟨.carried, [e.id, byteOf (withVote p e).count, e.required]⟩) s u) ∧
  ∀ (p : PortId) (src tag : Byte) (sh : Configuration) (rev : W16) (d : Deadline) (s : State),
    DecisionInv s → Served p src tag .commitConfig [] s → (s.master p).quarantined = false →
    s.session = .editing p sh rev d → s.table.length < 12 → s.config.globals.configQuorum.toNat ≤ 1 →
    ∃ u e, exec (.commitConfig p src tag) s = .next u ∧
      e = { freshEntry s s.freeId p .config .apply rev with revision := some rev } ∧
      RequestTaken p src tag .commitConfig []
        (fun r t => ∃ x y, EntryOpens e { r with session := .voting p sh rev } x ∧ Applied sh rev x y ∧
          EntryEnds e .carried y t)
        (fun _ _ => ⟨.carried, [s.freeId, 1#8, e.required] ++ wordBytes rev⟩) s u

/-- WITHDRAW removes the requester's vote: the entry ends WITHDRAWN when no voter is left (and an APPLY entry then
returns its session to EDITING), returns from READY to OPEN when its count falls below the required count, and
otherwise keeps its state; with no such entry or no such vote the request is refused with NOT_FOUND (R36,
R118). -/
def Obligations.WithdrawRemovesTheVote : Prop :=
  ∀ (p : PortId) (src tag id : Byte) (s : State), Served p src tag .withdraw [id] s →
    ((s.master p).quarantined = true →
      ∃ u, exec (.withdraw p src tag id) s = .next u ∧
        RequestRefused p src tag .withdraw [id] .quarantined (fun _ => []) s u) ∧
    ((s.master p).quarantined = false →
      (∀ e, s.entryById id = some e → hasBit e.voters p.val = false) →
      ∃ u, exec (.withdraw p src tag id) s = .next u ∧
        RequestRefused p src tag .withdraw [id] .notFound (fun _ => []) s u) ∧
    ∀ (e rest : Entry), (s.master p).quarantined = false → s.entryById id = some e →
      hasBit e.voters p.val = true → rest = { e with voters := removeBit e.voters p.val } →
      ∃ u, exec (.withdraw p src tag id) s = .next u ∧
        RequestTaken p src tag .withdraw [id]
          (fun r t =>
            (rest.voters = 0#4 ∧ e.subject ≠ .config ∧ EntryEnds rest .withdrawn r t) ∨
            (rest.voters = 0#4 ∧ e.subject = .config ∧ ∃ x, EntryEnds rest .withdrawn r x ∧
              t = { x with session := match x.session with
                | .voting o sh rev => .editing o sh rev ⟨r.count, 10000#16⟩
                | other => other }) ∨
            (rest.voters ≠ 0#4 ∧ t = replaced r { rest with
              state := if e.state = .ready ∧ rest.count < e.required.toNat then .voting else e.state }))
          (fun _ _ => ⟨.done, [id, byteOf rest.count]⟩) s u

/-- ENTRY_DEADLINE reached ends the entry EXPIRED, OPEN or READY; an expired APPLY entry returns its session to
EDITING with the same shadow and revision (R45, R118). -/
def Obligations.EntryDeadlineExpiresTheEntry : Prop :=
  ∀ (id : Byte) (e : Entry) (s : State), s.rstn = .high → s.entryById id = some e →
    e.deadline.reached s.count = true →
    (e.subject ≠ .config →
      ∃ t, exec (.entryDeadline id) s = .next t ∧ EntryEnds e .expired s t) ∧
    (e.subject = .config → ∀ o sh rev, s.session = .voting o sh rev →
      ∃ x, EntryEnds e .expired s x ∧
        exec (.entryDeadline id) s =
          .next { x with session := .editing o sh rev ⟨s.count, 10000#16⟩ })

/-! ### Configuration sessions -/

/-- OPEN_CONFIG with no session opens one on a copy of the current configuration (R112); CLOSE_CONFIG from the
owner ends it, in VOTING with the APPLY entry CANCELLED (R48, R124). -/
def Obligations.SessionsOpenAndClose : Prop :=
  ∀ (p : PortId) (src tag : Byte) (s : State), (s.master p).quarantined = false →
    (s.session = .none → Served p src tag .openConfig [] s →
      ∃ u, exec (.openConfig p src tag) s = .next u ∧
        RequestTaken p src tag .openConfig []
          (fun r t => t = { r with session := .editing p r.config 0#16 ⟨r.count, 10000#16⟩ })
          (fun r _ => ⟨.done, wordBytes r.generation⟩) s u) ∧
    (ownsEditing s p → Served p src tag .closeConfig [] s →
      ∃ u, exec (.closeConfig p src tag) s = .next u ∧
        RequestTaken p src tag .closeConfig [] (fun r t => t = { r with session := .none })
          (fun _ _ => ⟨.done, []⟩) s u) ∧
    ∀ e, ownsVoting s p → s.entryOn .config = some e → Served p src tag .closeConfig [] s →
      ∃ u, exec (.closeConfig p src tag) s = .next u ∧
        RequestTaken p src tag .closeConfig []
          (fun r t => EntryEnds e .cancelled { r with session := .none } t)
          (fun _ _ => ⟨.done, []⟩) s u

/-- A configuration write from the owner in EDITING, with every selected value in its range and a revision below
65535, sets the selected fields in the shadow, counts the revision and renews the idle deadline (R113 to
R115). -/
def Obligations.WritesAreTakenIntoTheShadow : Prop :=
  ∀ (p : PortId) (src tag select : Byte) (sh : Configuration) (rev : W16) (d : Deadline) (s : State),
    (s.master p).quarantined = false → s.session = .editing p sh rev d → rev ≠ 0xFFFF#16 →
    (∀ (n : LineId) (b : LineBlock) (params : List Byte),
      requestOf (.writeLineConfig p src tag (lineByte n) select b) =
        some (p, src, tag, .writeLineConfig, params) →
      Served p src tag .writeLineConfig params s →
      (∀ i, i < 7 → hasBit select i = true → lineFieldValid b i) →
      ∃ u, exec (.writeLineConfig p src tag (lineByte n) select b) s = .next u ∧
        RequestTaken p src tag .writeLineConfig params
          (fun r t => t = r.setSession (.editing p
            (sh.setLine n
              { policy := if hasBit select 0 then policyOf b.policy else (sh.line n).policy
                quorum := if hasBit select 1 then b.quorum else (sh.line n).quorum
                safe := if hasBit select 2 then (if b.safe = 1#8 then .high else .low)
                  else (sh.line n).safe
                pulseMax := if hasBit select 3 then b.pulseMax else (sh.line n).pulseMax
                leaseMax := if hasBit select 4 then b.leaseMax else (sh.line n).leaseMax
                feedback := if hasBit select 5 then decide (b.feedback = 1#8) else (sh.line n).feedback
                settle := if hasBit select 6 then b.settle else (sh.line n).settle })
            (rev + 1#16) ⟨r.count, 10000#16⟩))
          (fun _ _ => ⟨.done, wordBytes (rev + 1#16)⟩) s u) ∧
    ∀ (b : GlobalBlock) (params : List Byte),
      requestOf (.writeGlobalConfig p src tag select b) =
        some (p, src, tag, .writeGlobalConfig, params) →
      Served p src tag .writeGlobalConfig params s →
      (∀ i, i < 6 → hasBit select i = true → globalFieldValid b i) →
      ∃ u, exec (.writeGlobalConfig p src tag select b) s = .next u ∧
        RequestTaken p src tag .writeGlobalConfig params
          (fun r t => t = r.setSession (.editing p
            { sh with globals :=
              { presenceTimeout := if hasBit select 0 then b.presenceTimeout else sh.globals.presenceTimeout
                voteWindow := if hasBit select 1 then b.voteWindow else sh.globals.voteWindow
                quarantineQuorum :=
                  if hasBit select 2 then b.quarantineQuorum else sh.globals.quarantineQuorum
                restartQuorum := if hasBit select 3 then b.restartQuorum else sh.globals.restartQuorum
                configQuorum := if hasBit select 4 then b.configQuorum else sh.globals.configQuorum
                ports := if hasBit select 5 then b.ports.setWidth 4 else sh.globals.ports } }
            (rev + 1#16) ⟨r.count, 10000#16⟩))
          (fun _ _ => ⟨.done, wordBytes (rev + 1#16)⟩) s u

/-- A configuration write of the owner in EDITING with a selected value outside its range is refused with RANGE,
naming the first such field; a write at revision 65535 is refused with RANGE naming the revision (0xFF). Only the
idle deadline moves (R110, R113 to R115, R196). -/
def Obligations.WritesOutOfRangeAreRefused : Prop :=
  ∀ (p : PortId) (src tag select : Byte) (sh : Configuration) (rev : W16) (d : Deadline) (s : State)
    (c : Instr) (code : RequestCode) (params : List Byte) (valid : Nat → Prop) (fields : Nat),
    (s.master p).quarantined = false → s.session = .editing p sh rev d →
    requestOf c = some (p, src, tag, code, params) → Served p src tag code params s →
    ((∃ n b, c = .writeLineConfig p src tag (lineByte n) select b ∧ valid = lineFieldValid b ∧
        fields = 7) ∨
      (∃ b, c = .writeGlobalConfig p src tag select b ∧ valid = globalFieldValid b ∧ fields = 6)) →
    (∀ i, FirstBad select valid fields i →
      ∃ u, exec c s = .next u ∧ RequestTaken p src tag code params
        (fun r t => t = { r with session := .editing p sh rev ⟨r.count, 10000#16⟩ })
        (fun _ _ => ⟨.range, [byteOf i]⟩) s u) ∧
    ((∀ i, i < fields → hasBit select i = true → valid i) → rev = 0xFFFF#16 →
      ∃ u, exec c s = .next u ∧ RequestTaken p src tag code params
        (fun r t => t = { r with session := .editing p sh rev ⟨r.count, 10000#16⟩ })
        (fun _ _ => ⟨.range, [0xFF#8]⟩) s u)

/-- COMMIT_CONFIG from the owner in EDITING opens the APPLY entry and freezes the session in VOTING, answered
VOTED; with a full table it is refused with TABLE_FULL and renews the idle deadline (R110, R116). -/
def Obligations.CommitOpensTheApplyEntry : Prop :=
  ∀ (p : PortId) (src tag : Byte) (sh : Configuration) (rev : W16) (d : Deadline) (s : State),
    Served p src tag .commitConfig [] s → (s.master p).quarantined = false →
    s.session = .editing p sh rev d →
    (s.table.length < 12 → 2 ≤ s.config.globals.configQuorum.toNat →
      ∃ u, exec (.commitConfig p src tag) s = .next u ∧
        RequestTaken p src tag .commitConfig []
          (fun r t => EntryOpens
            { freshEntry r s.freeId p .config .apply rev with revision := some rev }
            { r with session := .voting p sh rev } t)
          (fun r _ => ⟨.voted, [s.freeId, 1#8, r.config.globals.configQuorum] ++ wordBytes rev⟩) s u) ∧
    (12 ≤ s.table.length →
      ∃ u, exec (.commitConfig p src tag) s = .next u ∧
        RequestTaken p src tag .commitConfig []
          (fun r t => t = { r with session := .editing p sh rev ⟨r.count, 10000#16⟩ })
          (fun _ _ => ⟨.tableFull, []⟩) s u)

/-- Session requests are refused by the requester's mark, the session state and the owner: QUARANTINED; BUSY to
OPEN_CONFIG with a session open; NO_SESSION to a master that does not own one; FROZEN to the owner's writes and
commit in VOTING (R100, R110 to R112). -/
def Obligations.SessionRequestsAreRefusedByTheSession : Prop :=
  ∀ (p : PortId) (src tag : Byte) (s : State) (c : Instr) (code : RequestCode) (params : List Byte),
    requestOf c = some (p, src, tag, code, params) → Served p src tag code params s →
    ((code = .openConfig ∨ (∃ n sel b, c = .writeLineConfig p src tag (lineByte n) sel b) ∨
        code = .writeGlobalConfig ∨ code = .commitConfig ∨ code = .closeConfig) →
      ((s.master p).quarantined = true →
        ∃ u, exec c s = .next u ∧ RequestRefused p src tag code params .quarantined (fun _ => []) s u) ∧
      ((s.master p).quarantined = false → code ≠ .openConfig → s.session.owner? ≠ some p →
        ∃ u, exec c s = .next u ∧ RequestRefused p src tag code params .noSession (fun _ => []) s u) ∧
      ((s.master p).quarantined = false → code ≠ .openConfig → code ≠ .closeConfig → ownsVoting s p →
        ∃ u, exec c s = .next u ∧ RequestRefused p src tag code params .frozen (fun _ => []) s u)) ∧
    (code = .openConfig → (s.master p).quarantined = false → ∀ o, s.session.owner? = some o →
      ∃ u, exec c s = .next u ∧ RequestTaken p src tag code params
        (fun r t => t = { r with session := match r.session with
          | .editing o sh rev d => .editing o sh rev (if o = p then ⟨r.count, 10000#16⟩ else d)
          | other => other })
        (fun r _ => ⟨.busy, [masterByte o, r.session.stateByte]⟩) s u) ∧
    ((∃ t, c = .readShadow p src tag (Target.byte t)) → s.session = .none →
      ∃ u, exec c s = .next u ∧ RequestRefused p src tag code params .noSession (fun _ => []) s u)

/-- IDLE_DEADLINE reached ends the session in EDITING; nothing else changes and no notice is raised (R125). -/
def Obligations.IdleDeadlineEndsTheSession : Prop :=
  ∀ (o : MasterId) (sh : Configuration) (rev : W16) (d : Deadline) (s : State), s.rstn = .high →
    s.session = .editing o sh rev d → d.reached s.count = true →
    exec .idleDeadline s = .next { s with session := .none }

/-! ### Masters and status -/

/-- HEARTBEAT renews its master and changes nothing else; it reports whether it admitted the master, the
quarantine mark and the presence timeout (R87, R88, R90). -/
def Obligations.HeartbeatRenewsItsMaster : Prop :=
  ∀ (p : PortId) (src tag : Byte) (s : State), Served p src tag .heartbeat [] s →
    ∃ u, exec (.heartbeat p src tag) s = .next u ∧
      RequestTaken p src tag .heartbeat [] NoEffect
        (fun _ _ => ⟨.done, [if (s.master p).presence = .absent then 1#8 else 0#8,
          if (s.master p).quarantined = true then 1#8 else 0#8] ++
          wordBytes s.config.globals.presenceTimeout⟩) s u

/-- PRESENCE_DEADLINE reached: the master is ABSENT, holds no assertion, lease, vote, session, subscription or
waiting notice any more, and keeps its quarantine mark, source address, sequence counter and port; its LEASE_LOST
flag is set when it owned a line, NOTICE_LOST when a notice waited. QUORUM and FIXED lines, every other master's
assertions, leases, votes, entries and session, and all other records are kept. The other masters are told of the
removal in its order, then of MASTER_CHANGED (EXPIRED) (R92, R93, R96, R103). -/
def Obligations.AbsenceTakesAllThatTheMasterHolds : Prop :=
  ∀ (m : MasterId) (d : Deadline) (s : State), DecisionInv s → s.rstn = .high →
    (s.master m).deadline = some d → d.reached s.count = true →
    ∃ t, exec (.presenceDeadline m) s = .next t ∧ MasterRemoved m s t ∧
      t.master m = { s.master m with presence := .absent, deadline := none } ∧
      (∀ k, k ≠ m → t.master k = s.master k) ∧
      (∀ k, k ≠ m → t.stat k = told s k (removalNotices s m .absent .absent ++
        [.masterChanged m .expired .absent (s.master m).quarantined]) (s.stat k)) ∧
      (t.stat m).mask = 0#6 ∧ (t.stat m).queue = [] ∧ (t.stat m).seq = (s.stat m).seq ∧
      (∀ f, hasFlag (t.stat m).flags f = true ↔
        hasFlag (s.stat m).flags f = true ∨ (f = .leaseLost ∧ ownsALine s m) ∨
          (f = .noticeLost ∧ (s.stat m).queue ≠ [])) ∧
      (∀ n, hasBit (t.line n).asserted m.val = false ∧ (t.line n).owner ≠ some m) ∧
      (∀ n, (s.line n).owner = some m →
        (t.line n).commanded = .released ∧ (t.line n).lease = none ∧ (t.line n).pulse = none) ∧
      (∀ x ∈ t.table, hasBit x.voters m.val = false ∧ x.voters ≠ 0#4) ∧
      t.session.owner? ≠ some m ∧
      (∀ n, (s.line n).cfg.policy = .quorum ∨ (s.line n).cfg.policy = .fixed → t.line n = s.line n) ∧
      (∀ n k, k ≠ m → (s.line n).owner = some k → t.line n = s.line n) ∧
      (∀ n k, k ≠ m → hasBit (t.line n).asserted k.val = hasBit (s.line n).asserted k.val) ∧
      (∀ k, k ≠ m → s.session.owner? = some k → t.session.owner? = some k) ∧
      t.ports = s.ports ∧ t.config = s.config ∧ t.generation = s.generation ∧ t.nextId = s.nextId ∧
      t.hold = s.hold

/-- READ_STATUS reports the snapshot and clears the flags it reports (R157, R158); SUBSCRIBE replaces the mask
and reports it with bits 7 to 6 as 0 (R159, R194); RESYNC makes the stored response invalid, clears and reports
the flags, empties the queue and zeroes the sequence counter (R149). -/
def Obligations.StatusRequestsReportAndClear : Prop :=
  ∀ (p : PortId) (src tag : Byte) (s : State),
    (Served p src tag .readStatus [] s →
      ∃ u, exec (.readStatus p src tag) s = .next u ∧
        RequestTaken p src tag .readStatus []
          (fun r t => t = r.setStat p { r.stat p with flags := 0#11 })
          (fun r _ => ⟨.done,
            [if r.hold.qualified = .asserted then 1#8 else 0#8,
              if r.lastRestart = .commanded then 1#8 else 0#8] ++ wordBytes r.generation ++
            [r.session.stateByte, ownerByte r.session.owner?, byteOf r.table.length,
              byteOf ((allMasters.map fun m =>
                (if (r.master m).presence = .present then 2 ^ m.val else 0) +
                (if (r.master m).quarantined = true then 2 ^ (4 + m.val) else 0)).sum)] ++
            wordBytes ((r.stat p).flags.setWidth 16)⟩) s u) ∧
    (∀ mask : Byte, Served p src tag .subscribe [mask] s →
      ∃ u, exec (.subscribe p src tag mask) s = .next u ∧
        RequestTaken p src tag .subscribe [mask]
          (fun r t => t = r.setStat p { r.stat p with mask := mask.setWidth 6 })
          (fun _ _ => ⟨.done, [mask &&& 0x3F#8]⟩) s u) ∧
    (Served p src tag .resync [] s →
      ∃ u, exec (.resync p src tag) s = .next u ∧
        RequestTaken p src tag .resync []
          (fun r t => ∃ x,
            x = r.setPort p { r.port p with stored := { (r.port p).stored with valid := false } } ∧
            t = x.setStat p ⟨0#11, (r.stat p).mask, [], 0#8⟩)
          (fun r _ => ⟨.done, wordBytes ((r.stat p).flags.setWidth 16)⟩) s u)

/-- The five reads report their snapshot and change nothing: READ_LINES (R16), READ_LINE (R17), READ_PROPOSALS
(R52), READ_CONFIG (R127), READ_SHADOW with a session (R128; from the owner in EDITING the idle deadline is
renewed, R110). -/
def Obligations.ReadsReportASnapshot : Prop :=
  ∀ (p : PortId) (src tag : Byte) (s : State),
    (Served p src tag .readLines [] s →
      ∃ u, exec (.readLines p src tag) s = .next u ∧
        RequestTaken p src tag .readLines [] NoEffect
          (fun r _ => ⟨.done, (if r.hold.qualified = .asserted then 1#8 else 0#8) ::
            allLines.map fun n => byteOf
              ((if r.driven n = .high then 1 else 0) +
                (if (r.line n).commanded = .active then 2 else 0) +
                4 * (r.line n).feedback.byte.toNat + 16 * (r.line n).cfg.policy.byte.toNat)⟩) s u) ∧
    (∀ n : LineId, Served p src tag .readLine [lineByte n] s →
      ∃ u, exec (.readLine p src tag (lineByte n)) s = .next u ∧
        RequestTaken p src tag .readLine [lineByte n] NoEffect
          (fun r _ => ⟨.done, [lineByte n] ++ (r.line n).cfg.bytes ++
            [(r.line n).commanded.byte, levelByte (r.driven n), setByte (r.line n).asserted,
              ownerByte (r.line n).owner] ++ wordBytes (remainingOf (r.line n).lease r.count) ++
            [boolByte (r.line n).pulse.isSome] ++ wordBytes (remainingOf (r.line n).pulse r.count) ++
            [(r.line n).feedback.byte, levelByte (r.input n),
              match r.entryOn (.line n) with
              | none => 0#8
              | some e => e.id]⟩) s u) ∧
    (∀ start : Byte, Served p src tag .readProposals [start] s →
      ∃ u, exec (.readProposals p src tag start) s = .next u ∧
        RequestTaken p src tag .readProposals [start] NoEffect
          (fun r _ => ⟨.done,
            [byteOf (min 4 (r.table.length - start.toNat)),
              byteOf (r.table.length - start.toNat - 4)] ++
            (((r.table.drop start.toNat).take 4).map fun e =>
              [e.id, byteOf ((if e.state = .ready then 128 else 0) + e.subject.kindByte.toNat),
                e.subject.indexByte, e.action.byte] ++ wordBytes e.argument ++
              [byteOf (16 * e.opener.val + e.voters.toNat), e.required] ++
              wordBytes (e.deadline.remaining r.count)).flatten⟩) s u) ∧
    (∀ tg : Target, Served p src tag .readConfig [tg.byte] s →
      ∃ u, exec (.readConfig p src tag tg.byte) s = .next u ∧
        RequestTaken p src tag .readConfig [tg.byte] NoEffect
          (fun r _ => ⟨.done, [tg.byte] ++ wordBytes r.generation ++
            match tg with
            | .line n => (r.config.line n).bytes
            | .globals => r.config.globals.bytes⟩) s u) ∧
    ∀ (tg : Target) (o : MasterId) (sh : Configuration) (rev : W16) (state : Byte),
      (state = 1#8 ∧ ∃ d, s.session = .editing o sh rev d) ∨
        (state = 2#8 ∧ s.session = .voting o sh rev) →
      Served p src tag .readShadow [tg.byte] s →
      ∃ u, exec (.readShadow p src tag tg.byte) s = .next u ∧
        RequestTaken p src tag .readShadow [tg.byte]
          (fun r t => t = if state = 1#8 ∧ o = p
            then { r with session := .editing o sh rev ⟨r.count, 10000#16⟩ } else r)
          (fun r _ => ⟨.done, [state, masterByte o] ++ wordBytes rev ++
            match tg with
            | .line n => [lineByte n, if sh.line n = r.config.line n then 0#8 else 1#8] ++
                (sh.line n).bytes
            | .globals => [0x10#8, if sh.globals = r.config.globals then 0#8 else 1#8] ++
                sh.globals.bytes⟩) s u

/-- Values outside their encodable sets are refused with RANGE at decode, without a result and without any effect
but the renewal, whatever the requester's quarantine mark: the line number of READ_LINE and WRITE_LINE_CONFIG,
the target of READ_CONFIG and READ_SHADOW, and the kind, index and action of PROPOSE (R140, R195). -/
def Obligations.ValuesOutsideTheirSetsAreRefusedAtDecode : Prop :=
  ∀ (p : PortId) (src tag : Byte) (s : State) (c : Instr) (code : RequestCode) (params : List Byte),
    requestOf c = some (p, src, tag, code, params) → Served p src tag code params s →
    ((∃ line, c = .readLine p src tag line ∧ 16 ≤ line.toNat) ∨
      (∃ line sel b, c = .writeLineConfig p src tag line sel b ∧ 16 ≤ line.toNat) ∨
      (∃ tg, (c = .readConfig p src tag tg ∨ c = .readShadow p src tag tg) ∧ 17 ≤ tg.toNat) ∨
      ∃ kind index action arg, c = .propose p src tag kind index action arg ∧
        (4 ≤ kind.toNat ∨ (kind = 0#8 ∧ 16 ≤ index.toNat) ∨ (kind = 1#8 ∧ 4 ≤ index.toNat) ∨
          (kind = 0#8 ∧ ¬(1 ≤ action.toNat ∧ action.toNat ≤ 3)) ∨
          (kind = 1#8 ∧ ¬(4 ≤ action.toNat ∧ action.toNat ≤ 5)) ∨
          (kind = 2#8 ∧ action.toNat ≠ 6) ∨ (kind = 3#8 ∧ action.toNat ≠ 7))) →
    ∃ u, exec c s = .next u ∧ RequestRefused p src tag code params .range (fun _ => []) s u

/-- R163, whole: a routed notice takes the place of the entry with its key; or is appended when the queue holds
fewer than 8; or is dropped with NOTICE_LOST. A queue within 8 entries and without two equal keys stays so. Which
notices have one key, and the class of each, are those of section 8.5. -/
def Obligations.ANoticeTakesItsPlaceInTheQueue : Prop :=
  ∀ (r : StatusRecord) (nt : Notice),
    ((∃ x ∈ r.queue, x.key = nt.key) →
      r.enqueue nt = { r with queue := r.queue.map fun x => if x.key = nt.key then nt else x }) ∧
    ((∀ x ∈ r.queue, x.key ≠ nt.key) → r.queue.length < 8 →
      r.enqueue nt = { r with queue := r.queue ++ [nt] }) ∧
    ((∀ x ∈ r.queue, x.key ≠ nt.key) → 8 ≤ r.queue.length →
      r.enqueue nt = { r with flags := addBit r.flags (flagBit .noticeLost) }) ∧
    (r.queue.length ≤ 8 → distinctKeys r.queue →
      (r.enqueue nt).queue.length ≤ 8 ∧ distinctKeys (r.enqueue nt).queue) ∧
    ∀ x : Notice, (x.key = nt.key ↔ noticeSubject x = noticeSubject nt) ∧ x.cls = (noticeSubject x).1

/-! ### Packets and transactions -/

/-- R192, whole: the remainder register starts at 0, takes the bytes in packet order by XOR, and shifts left eight
times for each, XORing 0x07 when the bit shifted out was 1; a packet closed by its check byte leaves 0; the
check byte of the manual's HEARTBEAT example is 0x82. -/
def Obligations.TheCheckByteIsTheCrc8 : Prop :=
  crc8 [] = 0#8 ∧
  (∀ (bytes : List Byte) (b : Byte), crc8 (bytes ++ [b]) =
    Nat.repeat (fun r : Byte => (r <<< 1) ^^^ (if r.getLsbD 7 then 0x07#8 else 0#8)) 8 (crc8 bytes ^^^ b)) ∧
  (∀ bytes : List Byte, crc8 (bytes ++ [crc8 bytes]) = 0#8) ∧
  crc8 [0x40#8, 0x21#8, 0x05#8, 0x10#8] = 0x82#8

/-- Every request is read back from its packet: the destination, the source, the tag, the code and the parameters
come back, the check byte is good, and decoding the code and the parameters gives the request (R136, R140,
R193; section 10.3). The codes and parameter lengths are those of Table 10-1, the statuses those of Table 10-2, the
fields, flags, classes, blocks, causes, reasons and changes those of Tables 10-3, 10-4 and 10-6 and of the shared
blocks. -/
def Obligations.RequestPacketsAreReadBack : Prop :=
  (∀ (dest src tag : Byte) (q : Request), q.wellFormed = true →
    (∃ check, parsePacket (requestPacket dest src tag q.code.byte q.params) =
      some (dest, ⟨src, tag, q.code.byte, q.params, check⟩)) ∧
    checkByteGood (requestPacket dest src tag q.code.byte q.params) = true ∧
    decodeRequest q.code.byte q.params = .ok q) ∧
  CodeTables

/-- A duplicate renews its master and is answered by the stored response, byte for byte, whatever the request; it
is not executed, and the stored-response record is kept (R138, R139). -/
def Obligations.DuplicatesAreReplayed : Prop :=
  ∀ (p : PortId) (src tag : Byte) (c : Instr) (code : RequestCode) (params : List Byte) (s : State),
    requestOf c = some (p, src, tag, code, params) → Accepting p s →
    (s.port p).stored.valid = true → (s.port p).stored.tag = tag →
    (s.port p).stored.check = requestCheck s src tag code params →
    ∃ r u, exec c s = .next u ∧ Renewed p src s r ∧
      u = r.setPort p { s.port p with
        responses := (s.port p).responses ++ [(s.port p).stored.response] }

/-- With both response slots taken a complete request waits in the assembly record and has no other effect (R132,
R147). Once a slot is free PROCESS_WAITING_PACKET processes it as the request is processed at once, and the
record is IDLE again; the characters behind the waiting packet are then drained (R182). That a request row is the
event of a whole packet of its port is the model's choice (log entry 4), and so is that PROCESS_WAITING_PACKET has no
effect when it is not due (log entry 3). -/
def Obligations.ARequestWaitsForAResponseSlot : Prop :=
  ∀ (p : PortId) (src tag : Byte) (c : Instr) (code : RequestCode) (params : List Byte) (s : State),
    requestOf c = some (p, src, tag, code, params) → s.rstn = .high →
    ((s.port p).link ≠ .off → (s.port p).assembly = ⟨.idle, []⟩ → 2 ≤ (s.port p).responses.length →
      exec c s = .next (assembling s p ⟨.waiting, requestBytes s src tag code params⟩)) ∧
    ((s.port p).link ≠ .off → (s.port p).assembly = ⟨.idle, []⟩ → (s.port p).responses.length < 2 →
      exec c s = .next
        (assembling (acceptRequest p (rawRequest s src tag code params) s) p ⟨.idle, []⟩)) ∧
    ((s.port p).assembly = ⟨.waiting, requestBytes s src tag code params⟩ → (s.port p).rx = [] →
      (s.port p).responses.length < 2 →
      exec (.processWaitingPacket p) s = .next
        (assembling (acceptRequest p (rawRequest s src tag code params) s) p ⟨.idle, []⟩)) ∧
    (∀ bytes, (s.port p).assembly = ⟨.waiting, bytes⟩ → (s.port p).responses.length < 2 →
      ∃ t, exec (.processWaitingPacket p) s = .next t ∧
        Drained p (assembling (processPacket p bytes s) p ⟨.idle, []⟩) t) ∧
    ((s.port p).assembly.state ≠ .waiting ∨ 2 ≤ (s.port p).responses.length →
      exec (.processWaitingPacket p) s = .next s)

/-- In UP with a grant outstanding a DATA, END or FAIL is taken by the assembly record as the table of R131 gives
(R131, R132, R177, R182): gathered, dropped, closed as a request, discarded with its flag, or kept in the buffer
behind a waiting packet. Whatever the buffer holds, the character is placed at its tail and the buffer is drained
from its head. -/
def Obligations.ReceivedCharactersAreAssembled : Prop :=
  ∀ (p : PortId) (b : Byte) (s h : State), s.rstn = .high → (s.port p).link = .up →
    0 < (s.port p).outstanding → h = heardOne s p →
    (∀ c ch, (c = .receiveData p b ∧ ch = .data b) ∨ (c = .receiveEnd p ∧ ch = .endChar) ∨
        (c = .receiveFail p ∧ ch = .failChar) →
      ∃ t, exec c s = .next t ∧
        Drained p (h.setPort p { h.port p with rx := (s.port p).rx ++ [ch] }) t) ∧
    ((s.port p).rx = [] → (s.port p).assembly.state = .idle →
      exec (.receiveData p b) s = .next (assembling h p ⟨.gathering, [b]⟩) ∧
      exec (.receiveEnd p) s = .next h ∧
      exec (.receiveFail p) s = .next (flagged (assembling h p ⟨.idle, []⟩) p .truncated)) ∧
    ((s.port p).rx = [] → (s.port p).assembly.state = .gathering →
      exec (.receiveData p b) s = .next (assembling h p
        (if (s.port p).assembly.bytes.length < 24
          then ⟨.gathering, (s.port p).assembly.bytes ++ [b]⟩
          else ⟨.overlong, (s.port p).assembly.bytes⟩)) ∧
      ((s.port p).assembly.bytes.length < 5 →
        exec (.receiveEnd p) s = .next (flagged (assembling h p ⟨.idle, []⟩) p .malformed)) ∧
      (∀ src tag code params, (s.port p).assembly.bytes = requestBytes s src tag code params →
        exec (.receiveEnd p) s = .next
          (if (s.port p).responses.length < 2
            then assembling (acceptRequest p (rawRequest s src tag code params) h) p ⟨.idle, []⟩
            else assembling h p ⟨.waiting, (s.port p).assembly.bytes⟩)) ∧
      exec (.receiveFail p) s = .next (flagged (assembling h p ⟨.idle, []⟩) p .truncated)) ∧
    ((s.port p).rx = [] → (s.port p).assembly.state = .overlong →
      exec (.receiveData p b) s = .next h ∧
      exec (.receiveEnd p) s = .next (flagged (assembling h p ⟨.idle, []⟩) p .malformed) ∧
      exec (.receiveFail p) s = .next (flagged (assembling h p ⟨.idle, []⟩) p .truncated)) ∧
    ((s.port p).assembly.state = .waiting →
      exec (.receiveData p b) s =
        .next (h.setPort p { h.port p with rx := (s.port p).rx ++ [.data b] }) ∧
      exec (.receiveEnd p) s =
        .next (h.setPort p { h.port p with rx := (s.port p).rx ++ [.endChar] }) ∧
      exec (.receiveFail p) s =
        .next (h.setPort p { h.port p with rx := (s.port p).rx ++ [.failChar] }))

/-- A complete packet that is no request: a bad check byte sets BAD_CHECK (R136), another destination
WRONG_ADDRESS (R137), both without a renewal or an answer; an unknown code is accepted and answered CODE with
response code 0xFF (R140, R142), a wrong parameter length FORMAT. -/
def Obligations.BadPacketsAreDiscardedOrRefused : Prop :=
  ∀ (p : PortId) (dest src tag code check : Byte) (params : List Byte) (s h : State),
    s.rstn = .high → (s.port p).link = .up → 0 < (s.port p).outstanding → (s.port p).rx = [] →
    (s.port p).assembly = ⟨.gathering, [dest, src, tag, code] ++ params ++ [check]⟩ →
    (s.port p).responses.length < 2 → h = heardOne s p →
    (check ≠ crc8 ([dest, src, tag, code] ++ params) →
      exec (.receiveEnd p) s = .next (flagged (assembling h p ⟨.idle, []⟩) p .badCheck)) ∧
    (check = crc8 ([dest, src, tag, code] ++ params) → dest ≠ s.linkAddress →
      exec (.receiveEnd p) s = .next (flagged (assembling h p ⟨.idle, []⟩) p .wrongAddress)) ∧
    ∀ (st : Status) (rc : Byte), check = crc8 ([dest, src, tag, code] ++ params) →
      dest = s.linkAddress → ((s.port p).stored.valid = true → (s.port p).stored.tag ≠ tag) →
      (((∀ x : RequestCode, x.byte ≠ code) ∧ st = .code ∧ rc = 0xFF#8) ∨
        (∃ x : RequestCode, x.byte = code ∧ params.length ≠ x.paramLength ∧ st = .format ∧
          rc = code + 0x80#8)) →
      ∃ r u response, exec (.receiveEnd p) s = .next u ∧ Renewed p src h r ∧
        response = [src, s.linkAddress, tag, rc, st.byte] ++
          [crc8 [src, s.linkAddress, tag, rc, st.byte]] ∧
        u = r.setPort p { r.port p with
          assembly := ⟨.idle, []⟩, stored := ⟨true, tag, check, response⟩,
          responses := (s.port p).responses ++ [response] }

/-! ### Links -/

/-- Start-up of a link: the holdoff deadline takes QUIET to LISTEN (R173), the first IDLE LISTEN to HANDSHAKE
(R175), the first GRANT HANDSHAKE to UP with a credit of 8 (R176); in UP a GRANT within the limit raises the
credit by 8 and IDLE restarts the disconnect deadline (R177, R178); OFF and QUIET ignore every character, one with
a parity error included, and LISTEN every character but IDLE and a parity error (R170, R172 to R174). That
HOLDOFF_DEADLINE has no effect outside QUIET is the model's choice (log entry 3). -/
def Obligations.TheLinkStartsUp : Prop :=
  ∀ (p : PortId) (s : State) (r : Port), s.rstn = .high → r = s.port p →
    (r.link = .quiet → exec (.holdoffDeadline p) s =
      .next (s.setPort p { r with link := .listen, holdoff := none, idleSent := false })) ∧
    (r.link ≠ .quiet → exec (.holdoffDeadline p) s = .next s) ∧
    (r.link = .listen → exec (.receiveIdle p) s = .next (s.setPort p { r with
        link := .handshake, handshake := some 250000, disconnect := some 1500 }) ∧
      exec (.receiveGrant p) s = .next s) ∧
    (r.link = .handshake → exec (.receiveGrant p) s = .next (s.setPort p { r with
        link := .up, credit := 8, handshake := none, disconnect := some 1500 }) ∧
      exec (.receiveIdle p) s = .next (s.setPort p { r with disconnect := some 1500 })) ∧
    (r.link = .up →
      (r.credit ≤ 56 → exec (.receiveGrant p) s = .next (s.setPort p { r with
        credit := r.credit + 8, disconnect := some 1500 })) ∧
      exec (.receiveIdle p) s = .next (s.setPort p { r with disconnect := some 1500 })) ∧
    (r.link = .off ∨ r.link = .quiet →
      exec (.receiveIdle p) s = .next s ∧ exec (.receiveGrant p) s = .next s ∧
      exec (.parityError p) s = .next s) ∧
    (r.link = .off ∨ r.link = .quiet ∨ r.link = .listen →
      (∀ b, exec (.receiveData p b) s = .next s) ∧ exec (.receiveEnd p) s = .next s ∧
      exec (.receiveFail p) s = .next s)

/-- Every error takes the port to QUIET (R179, R180): from LISTEN and HANDSHAKE without LINK_ERROR; from UP with
LINK_ERROR, NOTICE_LOST for a notice in transmission, and the response queue lost (R181). From UP a packet that
waits in the assembly record is then processed and the characters behind it are drained (R148, R181, R182). On
entering QUIET the receive buffer is trimmed to its last END or FAIL and a partial packet is discarded, with
TRUNCATED (R134, R180). That a port which the waiting packet takes out of UP does not enter QUIET, and that the
flags come first, is deduced (log entry 6); the field `wire` is the model's own (log entry 9). -/
def Obligations.ErrorsTakeThePortToQuiet : Prop :=
  ∀ (p : PortId) (c : Instr) (s : State) (r : Port), s.rstn = .high → r = s.port p →
    (r.link = .listen → exec (.parityError p) s = .next (s.setPort p { r with
      link := .quiet, idleSent := false, holdoff := some 20000, handshake := none,
      disconnect := none, wire := none })) ∧
    (r.link = .handshake →
      c = .parityError p ∨ c = .disconnectDeadline p ∨ c = .handshakeTimeout p ∨
        (∃ b, c = .receiveData p b) ∨ c = .receiveEnd p ∨ c = .receiveFail p →
      ∃ t, exec c s = .next t ∧ QuietEntered p s t) ∧
    (r.link = .up →
      c = .parityError p ∨ c = .disconnectDeadline p ∨ (c = .receiveGrant p ∧ 56 < r.credit) ∨
        (r.outstanding = 0 ∧
          ((∃ b, c = .receiveData p b) ∨ c = .receiveEnd p ∨ c = .receiveFail p)) →
      ∃ t, exec c s = .next t ∧
        (r.assembly.state ≠ .waiting → QuietEntered p (afterLosses p s) t) ∧
        (∀ bytes, r.assembly = ⟨.waiting, bytes⟩ → ∃ u,
          Drained p (assembling (processPacket p bytes (afterLosses p s)) p ⟨.idle, []⟩) u ∧
          ((u.port p).link = .up → QuietEntered p u t) ∧ ((u.port p).link ≠ .up → t = u)))

/-- TRANSMIT_CHARACTER sends what the port's state chooses (R174, R175, R183 to R187): nothing in OFF and QUIET;
IDLE in LISTEN; in HANDSHAKE an owed GRANT once IDLE was sent, else IDLE; in UP an owed GRANT, else the next
character of the packet in transmission, else the first of the front response, else of the front notice, else
IDLE; without credit IDLE. The field `wire` that holds the character sent is the model's own (log entry 9); the byte
for ABSENT in the payload of MASTER_CHANGED is a free value of the model (log entry 13). A notice is sent as
`noticeBytes` spells its kind and its payload (section 10.4). -/
def Obligations.TheTransmitterChooses : Prop :=
  ∀ (p : PortId) (s : State) (r : Port), s.rstn = .high → r = s.port p →
    (r.link = .off ∨ r.link = .quiet → exec (.transmitCharacter p) s = .next s) ∧
    ((r.link = .listen ∨ (r.link = .handshake ∧ ¬(owed r ∧ r.idleSent = true)) ∨
        (r.link = .up ∧ ¬owed r ∧ (r.credit = 0 ∨
          (r.tx = none ∧ r.responses = [] ∧ (s.stat p).queue = [])))) →
      exec (.transmitCharacter p) s =
        .next (s.setPort p { r with wire := some .idle, idleSent := true })) ∧
    ((r.link = .handshake ∧ owed r ∧ r.idleSent = true) ∨ (r.link = .up ∧ owed r) →
      exec (.transmitCharacter p) s =
        .next (s.setPort p { r with wire := some .grant, outstanding := r.outstanding + 8 })) ∧
    (r.link = .up → ¬owed r → 0 < r.credit →
      (∀ k front rest b, r.responses = front :: rest → front[k]? = some b →
        r.tx = some (.response k) ∨ (r.tx = none ∧ k = 0) →
        exec (.transmitCharacter p) s = .next (s.setPort p { r with
          wire := some (.data b), credit := r.credit - 1, tx := some (.response (k + 1)) })) ∧
      (∀ bytes k b, r.tx = some (.notice bytes k) → bytes[k]? = some b →
        exec (.transmitCharacter p) s = .next (s.setPort p { r with
          wire := some (.data b), credit := r.credit - 1, tx := some (.notice bytes (k + 1)) })) ∧
      ∀ nt rest dest, r.tx = none → r.responses = [] → (s.stat p).queue = nt :: rest →
        (s.master p).lastSource = some dest →
        ∃ bytes, bytes = [dest, s.linkAddress, (s.stat p).seq, 0xE0#8] ++ noticeBytes nt ++
            [crc8 ([dest, s.linkAddress, (s.stat p).seq, 0xE0#8] ++ noticeBytes nt)] ∧
          exec (.transmitCharacter p) s = .next
            ((s.setStat p { s.stat p with queue := rest, seq := (s.stat p).seq + 1#8 }).setPort p
              { r with
                wire := some (.data dest), credit := r.credit - 1, tx := some (.notice bytes 1) }))

/-- The END of a packet in transmission is sent by PACKET_END_SENT, and by TRANSMIT_CHARACTER, when every byte has
been sent, the link is UP, no GRANT is owed and there is credit: the packet becomes absent and a response leaves
its slot (R146, R184, R187). When the END is not the next character, bytes of the packet still to send included,
PACKET_END_SENT has no effect (the model's choice, log entry 3). That TRANSMIT_CHARACTER and PACKET_END_SENT both
send the END, as one effect, and that the packet which waits for the freed slot is not processed in the same step but
by PROCESS_WAITING_PACKET (R147 says at once), is the model's choice (log entry 7). The field `wire` that holds the END
is the model's own (log entry 9). -/
def Obligations.TheEndOfAPacketFreesItsSlot : Prop :=
  ∀ (p : PortId) (s : State) (r : Port), s.rstn = .high → r = s.port p →
    (r.link = .up → ¬owed r → 0 < r.credit →
      (∀ k front rest, r.responses = front :: rest → r.tx = some (.response k) → front.length ≤ k →
        exec (.packetEndSent p) s = .next (s.setPort p { r with
          wire := some .endChar, credit := r.credit - 1, tx := none, responses := rest }) ∧
        exec (.transmitCharacter p) s = exec (.packetEndSent p) s) ∧
      ∀ bytes k, r.tx = some (.notice bytes k) → bytes.length ≤ k →
        exec (.packetEndSent p) s = .next (s.setPort p { r with
          wire := some .endChar, credit := r.credit - 1, tx := none }) ∧
        exec (.transmitCharacter p) s = exec (.packetEndSent p) s) ∧
    (r.link ≠ .up ∨ owed r ∨ r.credit = 0 ∨ r.tx = none ∨
        (∃ k front rest, r.responses = front :: rest ∧ r.tx = some (.response k) ∧ k < front.length) ∨
        (∃ bytes k, r.tx = some (.notice bytes k) ∧ k < bytes.length) →
      exec (.packetEndSent p) s = .next s)

/-! ### Invariants that every step keeps -/

/-- Every step keeps the flow-control laws of every port: buffer and outstanding grant within 32, credit within
64, responses within 2, assembly within 24 bytes, counts 0 while the link is down (R130, R146, R171, R183,
R184); and it keeps each port's deadlines and transmission in step with its link state (R171). -/
def Obligations.StepKeepsThePortLaws : Prop :=
  (∀ s t : State, FlowInv s → step s = .next t → FlowInv t) ∧
  ∀ s t : State, LinkInv s → step s = .next t → LinkInv t

/-- Every step keeps every notification queue within 8 entries, no two with one key (R154, R163), and every master
record in step with its presence: a deadline exactly while PRESENT, an address while PRESENT, no subscription
and no notice while ABSENT (R86, R89, R93). -/
def Obligations.StepKeepsTheQueuesAndTheMasterRecords : Prop :=
  (∀ s t : State, QueueInv s → step s = .next t → QueueInv t) ∧
  ∀ s t : State, MasterInv s → step s = .next t → MasterInv t

/-- Every step keeps the laws of the line records: SHARED lines ACTIVE exactly with a member, owners on LEASED
lines alone, pulses on ACTIVE lines alone and none under HOLD, feedback OFF exactly with the check off, copies
equal to the configuration, entries on QUORUM lines alone (R2 to R4, R57, R59, R71, R76, R106). -/
def Obligations.StepKeepsTheLineLaws : Prop :=
  ∀ s t : State, LineInv s → step s = .next t → LineInv t

/-- Every step keeps the decision state lawful: assertions, leases, votes and the session belong to eligible
masters alone, every entry is well formed, no two entries have one subject, the session is in VOTING exactly
while the APPLY entry stands, and one master at least is not quarantined (R20, R21, R43, R57, R59, R99, R109). -/
def Obligations.StepKeepsTheDecisionState : Prop :=
  ∀ s t : State, DecisionInv s → step s = .next t → DecisionInv t

/-- The state after reset meets every invariant (the levels of the straps and input pins in it are the model's
choice, log entry 1). -/
def Obligations.ResetMeetsTheInvariants : Prop :=
  FlowInv State.reset ∧ LinkInv State.reset ∧ QueueInv State.reset ∧ MasterInv State.reset ∧
    LineInv State.reset ∧ DecisionInv State.reset
end

