-- ==== Sys2Proof/Laws/State.lean ====
section
/-! SUPPORT. One lemma per field per update of the state: each update leaves every other field as it was, and
the record it replaces reads as the new one. -/

namespace Sys2Proof.Machine

open Sys2Proof

/-! ### Reading and replacing one of a fixed number of records -/

theorem get_eq_getElem {α : Type} {n : Nat} (v : Vector α n) (i : Fin n) : v.get i = v[i.val] := rfl

@[simp] theorem get_set_same {α : Type} {n : Nat} (v : Vector α n) (i : Fin n) (x : α) :
    (v.set i.val x i.isLt).get i = x := by
  simp [get_eq_getElem]

theorem get_set_other {α : Type} {n : Nat} (v : Vector α n) (i j : Fin n) (x : α) (h : j ≠ i) :
    (v.set i.val x i.isLt).get j = v.get j := by
  have h' : i.val ≠ j.val := fun e => h (Fin.ext e.symm)
  simp [get_eq_getElem, h']

theorem get_set {α : Type} {n : Nat} (v : Vector α n) (i j : Fin n) (x : α) :
    (v.set i.val x i.isLt).get j = if j = i then x else v.get j := by
  split
  · next h => subst h; exact get_set_same v j x
  · next h => exact get_set_other v i j x h

@[simp] theorem get_ofFn {α : Type} {n : Nat} (f : Fin n → α) (i : Fin n) :
    (Vector.ofFn f).get i = f i := by
  simp [get_eq_getElem]

@[simp] theorem get_eachRecord {α : Type} {n : Nat} (f : α → α) (v : Vector α n) (i : Fin n) :
    (eachRecord f v).get i = f (v.get i) := get_ofFn _ i

@[simp] theorem get_replicate {α : Type} {n : Nat} (x : α) (i : Fin n) :
    (Vector.replicate n x).get i = x := by
  simp [get_eq_getElem]

theorem vector_ext_get {α : Type} {n : Nat} {v w : Vector α n} (h : ∀ i : Fin n, v.get i = w.get i) :
    v = w := by
  apply Vector.ext
  intro i hi
  simpa [get_eq_getElem] using h ⟨i, hi⟩

variable (s : State)

/-! ### setLine -/

@[simp] theorem State.setLine_rstn (n : LineId) (l : Line) : (s.setLine n l).rstn = s.rstn := rfl
@[simp] theorem State.setLine_count (n : LineId) (l : Line) : (s.setLine n l).count = s.count := rfl
@[simp] theorem State.setLine_linkAddress (n : LineId) (l : Line) : (s.setLine n l).linkAddress = s.linkAddress := rfl
@[simp] theorem State.setLine_hold (n : LineId) (l : Line) : (s.setLine n l).hold = s.hold := rfl
@[simp] theorem State.setLine_fbk (n : LineId) (l : Line) : (s.setLine n l).fbk = s.fbk := rfl
@[simp] theorem State.setLine_table (n : LineId) (l : Line) : (s.setLine n l).table = s.table := rfl
@[simp] theorem State.setLine_nextId (n : LineId) (l : Line) : (s.setLine n l).nextId = s.nextId := rfl
@[simp] theorem State.setLine_masters (n : LineId) (l : Line) : (s.setLine n l).masters = s.masters := rfl
@[simp] theorem State.setLine_config (n : LineId) (l : Line) : (s.setLine n l).config = s.config := rfl
@[simp] theorem State.setLine_generation (n : LineId) (l : Line) : (s.setLine n l).generation = s.generation := rfl
@[simp] theorem State.setLine_session (n : LineId) (l : Line) : (s.setLine n l).session = s.session := rfl
@[simp] theorem State.setLine_status (n : LineId) (l : Line) : (s.setLine n l).status = s.status := rfl
@[simp] theorem State.setLine_lastRestart (n : LineId) (l : Line) : (s.setLine n l).lastRestart = s.lastRestart := rfl
@[simp] theorem State.setLine_ports (n : LineId) (l : Line) : (s.setLine n l).ports = s.ports := rfl
@[simp] theorem State.setLine_pending (n : LineId) (l : Line) : (s.setLine n l).pending = s.pending := rfl
@[simp] theorem State.setLine_master (n : LineId) (l : Line) (m' : MasterId) : (s.setLine n l).master m' = s.master m' := rfl
@[simp] theorem State.setLine_stat (n : LineId) (l : Line) (m' : MasterId) : (s.setLine n l).stat m' = s.stat m' := rfl
@[simp] theorem State.setLine_port (n : LineId) (l : Line) (p' : PortId) : (s.setLine n l).port p' = s.port p' := rfl
@[simp] theorem State.setLine_input (n : LineId) (l : Line) (n' : LineId) : (s.setLine n l).input n' = s.input n' := rfl

/-! ### updLine -/

@[simp] theorem State.updLine_rstn (n : LineId) (f : Line → Line) : (s.updLine n f).rstn = s.rstn := rfl
@[simp] theorem State.updLine_count (n : LineId) (f : Line → Line) : (s.updLine n f).count = s.count := rfl
@[simp] theorem State.updLine_linkAddress (n : LineId) (f : Line → Line) : (s.updLine n f).linkAddress = s.linkAddress := rfl
@[simp] theorem State.updLine_hold (n : LineId) (f : Line → Line) : (s.updLine n f).hold = s.hold := rfl
@[simp] theorem State.updLine_fbk (n : LineId) (f : Line → Line) : (s.updLine n f).fbk = s.fbk := rfl
@[simp] theorem State.updLine_table (n : LineId) (f : Line → Line) : (s.updLine n f).table = s.table := rfl
@[simp] theorem State.updLine_nextId (n : LineId) (f : Line → Line) : (s.updLine n f).nextId = s.nextId := rfl
@[simp] theorem State.updLine_masters (n : LineId) (f : Line → Line) : (s.updLine n f).masters = s.masters := rfl
@[simp] theorem State.updLine_config (n : LineId) (f : Line → Line) : (s.updLine n f).config = s.config := rfl
@[simp] theorem State.updLine_generation (n : LineId) (f : Line → Line) : (s.updLine n f).generation = s.generation := rfl
@[simp] theorem State.updLine_session (n : LineId) (f : Line → Line) : (s.updLine n f).session = s.session := rfl
@[simp] theorem State.updLine_status (n : LineId) (f : Line → Line) : (s.updLine n f).status = s.status := rfl
@[simp] theorem State.updLine_lastRestart (n : LineId) (f : Line → Line) : (s.updLine n f).lastRestart = s.lastRestart := rfl
@[simp] theorem State.updLine_ports (n : LineId) (f : Line → Line) : (s.updLine n f).ports = s.ports := rfl
@[simp] theorem State.updLine_pending (n : LineId) (f : Line → Line) : (s.updLine n f).pending = s.pending := rfl
@[simp] theorem State.updLine_master (n : LineId) (f : Line → Line) (m' : MasterId) : (s.updLine n f).master m' = s.master m' := rfl
@[simp] theorem State.updLine_stat (n : LineId) (f : Line → Line) (m' : MasterId) : (s.updLine n f).stat m' = s.stat m' := rfl
@[simp] theorem State.updLine_port (n : LineId) (f : Line → Line) (p' : PortId) : (s.updLine n f).port p' = s.port p' := rfl
@[simp] theorem State.updLine_input (n : LineId) (f : Line → Line) (n' : LineId) : (s.updLine n f).input n' = s.input n' := rfl

/-! ### setMaster -/

@[simp] theorem State.setMaster_rstn (m : MasterId) (r : Master) : (s.setMaster m r).rstn = s.rstn := rfl
@[simp] theorem State.setMaster_count (m : MasterId) (r : Master) : (s.setMaster m r).count = s.count := rfl
@[simp] theorem State.setMaster_linkAddress (m : MasterId) (r : Master) : (s.setMaster m r).linkAddress = s.linkAddress := rfl
@[simp] theorem State.setMaster_hold (m : MasterId) (r : Master) : (s.setMaster m r).hold = s.hold := rfl
@[simp] theorem State.setMaster_fbk (m : MasterId) (r : Master) : (s.setMaster m r).fbk = s.fbk := rfl
@[simp] theorem State.setMaster_lines (m : MasterId) (r : Master) : (s.setMaster m r).lines = s.lines := rfl
@[simp] theorem State.setMaster_table (m : MasterId) (r : Master) : (s.setMaster m r).table = s.table := rfl
@[simp] theorem State.setMaster_nextId (m : MasterId) (r : Master) : (s.setMaster m r).nextId = s.nextId := rfl
@[simp] theorem State.setMaster_config (m : MasterId) (r : Master) : (s.setMaster m r).config = s.config := rfl
@[simp] theorem State.setMaster_generation (m : MasterId) (r : Master) : (s.setMaster m r).generation = s.generation := rfl
@[simp] theorem State.setMaster_session (m : MasterId) (r : Master) : (s.setMaster m r).session = s.session := rfl
@[simp] theorem State.setMaster_status (m : MasterId) (r : Master) : (s.setMaster m r).status = s.status := rfl
@[simp] theorem State.setMaster_lastRestart (m : MasterId) (r : Master) : (s.setMaster m r).lastRestart = s.lastRestart := rfl
@[simp] theorem State.setMaster_ports (m : MasterId) (r : Master) : (s.setMaster m r).ports = s.ports := rfl
@[simp] theorem State.setMaster_pending (m : MasterId) (r : Master) : (s.setMaster m r).pending = s.pending := rfl
@[simp] theorem State.setMaster_line (m : MasterId) (r : Master) (n' : LineId) : (s.setMaster m r).line n' = s.line n' := rfl
@[simp] theorem State.setMaster_stat (m : MasterId) (r : Master) (m' : MasterId) : (s.setMaster m r).stat m' = s.stat m' := rfl
@[simp] theorem State.setMaster_port (m : MasterId) (r : Master) (p' : PortId) : (s.setMaster m r).port p' = s.port p' := rfl
@[simp] theorem State.setMaster_input (m : MasterId) (r : Master) (n' : LineId) : (s.setMaster m r).input n' = s.input n' := rfl

/-! ### setStat -/

@[simp] theorem State.setStat_rstn (m : MasterId) (r : StatusRecord) : (s.setStat m r).rstn = s.rstn := rfl
@[simp] theorem State.setStat_count (m : MasterId) (r : StatusRecord) : (s.setStat m r).count = s.count := rfl
@[simp] theorem State.setStat_linkAddress (m : MasterId) (r : StatusRecord) : (s.setStat m r).linkAddress = s.linkAddress := rfl
@[simp] theorem State.setStat_hold (m : MasterId) (r : StatusRecord) : (s.setStat m r).hold = s.hold := rfl
@[simp] theorem State.setStat_fbk (m : MasterId) (r : StatusRecord) : (s.setStat m r).fbk = s.fbk := rfl
@[simp] theorem State.setStat_lines (m : MasterId) (r : StatusRecord) : (s.setStat m r).lines = s.lines := rfl
@[simp] theorem State.setStat_table (m : MasterId) (r : StatusRecord) : (s.setStat m r).table = s.table := rfl
@[simp] theorem State.setStat_nextId (m : MasterId) (r : StatusRecord) : (s.setStat m r).nextId = s.nextId := rfl
@[simp] theorem State.setStat_masters (m : MasterId) (r : StatusRecord) : (s.setStat m r).masters = s.masters := rfl
@[simp] theorem State.setStat_config (m : MasterId) (r : StatusRecord) : (s.setStat m r).config = s.config := rfl
@[simp] theorem State.setStat_generation (m : MasterId) (r : StatusRecord) : (s.setStat m r).generation = s.generation := rfl
@[simp] theorem State.setStat_session (m : MasterId) (r : StatusRecord) : (s.setStat m r).session = s.session := rfl
@[simp] theorem State.setStat_lastRestart (m : MasterId) (r : StatusRecord) : (s.setStat m r).lastRestart = s.lastRestart := rfl
@[simp] theorem State.setStat_ports (m : MasterId) (r : StatusRecord) : (s.setStat m r).ports = s.ports := rfl
@[simp] theorem State.setStat_pending (m : MasterId) (r : StatusRecord) : (s.setStat m r).pending = s.pending := rfl
@[simp] theorem State.setStat_line (m : MasterId) (r : StatusRecord) (n' : LineId) : (s.setStat m r).line n' = s.line n' := rfl
@[simp] theorem State.setStat_master (m : MasterId) (r : StatusRecord) (m' : MasterId) : (s.setStat m r).master m' = s.master m' := rfl
@[simp] theorem State.setStat_port (m : MasterId) (r : StatusRecord) (p' : PortId) : (s.setStat m r).port p' = s.port p' := rfl
@[simp] theorem State.setStat_input (m : MasterId) (r : StatusRecord) (n' : LineId) : (s.setStat m r).input n' = s.input n' := rfl

/-! ### setPort -/

@[simp] theorem State.setPort_rstn (p : PortId) (r : Port) : (s.setPort p r).rstn = s.rstn := rfl
@[simp] theorem State.setPort_count (p : PortId) (r : Port) : (s.setPort p r).count = s.count := rfl
@[simp] theorem State.setPort_linkAddress (p : PortId) (r : Port) : (s.setPort p r).linkAddress = s.linkAddress := rfl
@[simp] theorem State.setPort_hold (p : PortId) (r : Port) : (s.setPort p r).hold = s.hold := rfl
@[simp] theorem State.setPort_fbk (p : PortId) (r : Port) : (s.setPort p r).fbk = s.fbk := rfl
@[simp] theorem State.setPort_lines (p : PortId) (r : Port) : (s.setPort p r).lines = s.lines := rfl
@[simp] theorem State.setPort_table (p : PortId) (r : Port) : (s.setPort p r).table = s.table := rfl
@[simp] theorem State.setPort_nextId (p : PortId) (r : Port) : (s.setPort p r).nextId = s.nextId := rfl
@[simp] theorem State.setPort_masters (p : PortId) (r : Port) : (s.setPort p r).masters = s.masters := rfl
@[simp] theorem State.setPort_config (p : PortId) (r : Port) : (s.setPort p r).config = s.config := rfl
@[simp] theorem State.setPort_generation (p : PortId) (r : Port) : (s.setPort p r).generation = s.generation := rfl
@[simp] theorem State.setPort_session (p : PortId) (r : Port) : (s.setPort p r).session = s.session := rfl
@[simp] theorem State.setPort_status (p : PortId) (r : Port) : (s.setPort p r).status = s.status := rfl
@[simp] theorem State.setPort_lastRestart (p : PortId) (r : Port) : (s.setPort p r).lastRestart = s.lastRestart := rfl
@[simp] theorem State.setPort_pending (p : PortId) (r : Port) : (s.setPort p r).pending = s.pending := rfl
@[simp] theorem State.setPort_line (p : PortId) (r : Port) (n' : LineId) : (s.setPort p r).line n' = s.line n' := rfl
@[simp] theorem State.setPort_master (p : PortId) (r : Port) (m' : MasterId) : (s.setPort p r).master m' = s.master m' := rfl
@[simp] theorem State.setPort_stat (p : PortId) (r : Port) (m' : MasterId) : (s.setPort p r).stat m' = s.stat m' := rfl
@[simp] theorem State.setPort_input (p : PortId) (r : Port) (n' : LineId) : (s.setPort p r).input n' = s.input n' := rfl

/-! ### updPort -/

@[simp] theorem State.updPort_rstn (p : PortId) (f : Port → Port) : (s.updPort p f).rstn = s.rstn := rfl
@[simp] theorem State.updPort_count (p : PortId) (f : Port → Port) : (s.updPort p f).count = s.count := rfl
@[simp] theorem State.updPort_linkAddress (p : PortId) (f : Port → Port) : (s.updPort p f).linkAddress = s.linkAddress := rfl
@[simp] theorem State.updPort_hold (p : PortId) (f : Port → Port) : (s.updPort p f).hold = s.hold := rfl
@[simp] theorem State.updPort_fbk (p : PortId) (f : Port → Port) : (s.updPort p f).fbk = s.fbk := rfl
@[simp] theorem State.updPort_lines (p : PortId) (f : Port → Port) : (s.updPort p f).lines = s.lines := rfl
@[simp] theorem State.updPort_table (p : PortId) (f : Port → Port) : (s.updPort p f).table = s.table := rfl
@[simp] theorem State.updPort_nextId (p : PortId) (f : Port → Port) : (s.updPort p f).nextId = s.nextId := rfl
@[simp] theorem State.updPort_masters (p : PortId) (f : Port → Port) : (s.updPort p f).masters = s.masters := rfl
@[simp] theorem State.updPort_config (p : PortId) (f : Port → Port) : (s.updPort p f).config = s.config := rfl
@[simp] theorem State.updPort_generation (p : PortId) (f : Port → Port) : (s.updPort p f).generation = s.generation := rfl
@[simp] theorem State.updPort_session (p : PortId) (f : Port → Port) : (s.updPort p f).session = s.session := rfl
@[simp] theorem State.updPort_status (p : PortId) (f : Port → Port) : (s.updPort p f).status = s.status := rfl
@[simp] theorem State.updPort_lastRestart (p : PortId) (f : Port → Port) : (s.updPort p f).lastRestart = s.lastRestart := rfl
@[simp] theorem State.updPort_pending (p : PortId) (f : Port → Port) : (s.updPort p f).pending = s.pending := rfl
@[simp] theorem State.updPort_line (p : PortId) (f : Port → Port) (n' : LineId) : (s.updPort p f).line n' = s.line n' := rfl
@[simp] theorem State.updPort_master (p : PortId) (f : Port → Port) (m' : MasterId) : (s.updPort p f).master m' = s.master m' := rfl
@[simp] theorem State.updPort_stat (p : PortId) (f : Port → Port) (m' : MasterId) : (s.updPort p f).stat m' = s.stat m' := rfl
@[simp] theorem State.updPort_input (p : PortId) (f : Port → Port) (n' : LineId) : (s.updPort p f).input n' = s.input n' := rfl

/-! ### setTable -/

@[simp] theorem State.setTable_rstn (t : List Entry) : (s.setTable t).rstn = s.rstn := rfl
@[simp] theorem State.setTable_count (t : List Entry) : (s.setTable t).count = s.count := rfl
@[simp] theorem State.setTable_linkAddress (t : List Entry) : (s.setTable t).linkAddress = s.linkAddress := rfl
@[simp] theorem State.setTable_hold (t : List Entry) : (s.setTable t).hold = s.hold := rfl
@[simp] theorem State.setTable_fbk (t : List Entry) : (s.setTable t).fbk = s.fbk := rfl
@[simp] theorem State.setTable_lines (t : List Entry) : (s.setTable t).lines = s.lines := rfl
@[simp] theorem State.setTable_nextId (t : List Entry) : (s.setTable t).nextId = s.nextId := rfl
@[simp] theorem State.setTable_masters (t : List Entry) : (s.setTable t).masters = s.masters := rfl
@[simp] theorem State.setTable_config (t : List Entry) : (s.setTable t).config = s.config := rfl
@[simp] theorem State.setTable_generation (t : List Entry) : (s.setTable t).generation = s.generation := rfl
@[simp] theorem State.setTable_session (t : List Entry) : (s.setTable t).session = s.session := rfl
@[simp] theorem State.setTable_status (t : List Entry) : (s.setTable t).status = s.status := rfl
@[simp] theorem State.setTable_lastRestart (t : List Entry) : (s.setTable t).lastRestart = s.lastRestart := rfl
@[simp] theorem State.setTable_ports (t : List Entry) : (s.setTable t).ports = s.ports := rfl
@[simp] theorem State.setTable_pending (t : List Entry) : (s.setTable t).pending = s.pending := rfl
@[simp] theorem State.setTable_line (t : List Entry) (n' : LineId) : (s.setTable t).line n' = s.line n' := rfl
@[simp] theorem State.setTable_master (t : List Entry) (m' : MasterId) : (s.setTable t).master m' = s.master m' := rfl
@[simp] theorem State.setTable_stat (t : List Entry) (m' : MasterId) : (s.setTable t).stat m' = s.stat m' := rfl
@[simp] theorem State.setTable_port (t : List Entry) (p' : PortId) : (s.setTable t).port p' = s.port p' := rfl
@[simp] theorem State.setTable_input (t : List Entry) (n' : LineId) : (s.setTable t).input n' = s.input n' := rfl

/-! ### setSession -/

@[simp] theorem State.setSession_rstn (x : Session) : (s.setSession x).rstn = s.rstn := rfl
@[simp] theorem State.setSession_count (x : Session) : (s.setSession x).count = s.count := rfl
@[simp] theorem State.setSession_linkAddress (x : Session) : (s.setSession x).linkAddress = s.linkAddress := rfl
@[simp] theorem State.setSession_hold (x : Session) : (s.setSession x).hold = s.hold := rfl
@[simp] theorem State.setSession_fbk (x : Session) : (s.setSession x).fbk = s.fbk := rfl
@[simp] theorem State.setSession_lines (x : Session) : (s.setSession x).lines = s.lines := rfl
@[simp] theorem State.setSession_table (x : Session) : (s.setSession x).table = s.table := rfl
@[simp] theorem State.setSession_nextId (x : Session) : (s.setSession x).nextId = s.nextId := rfl
@[simp] theorem State.setSession_masters (x : Session) : (s.setSession x).masters = s.masters := rfl
@[simp] theorem State.setSession_config (x : Session) : (s.setSession x).config = s.config := rfl
@[simp] theorem State.setSession_generation (x : Session) : (s.setSession x).generation = s.generation := rfl
@[simp] theorem State.setSession_status (x : Session) : (s.setSession x).status = s.status := rfl
@[simp] theorem State.setSession_lastRestart (x : Session) : (s.setSession x).lastRestart = s.lastRestart := rfl
@[simp] theorem State.setSession_ports (x : Session) : (s.setSession x).ports = s.ports := rfl
@[simp] theorem State.setSession_pending (x : Session) : (s.setSession x).pending = s.pending := rfl
@[simp] theorem State.setSession_line (x : Session) (n' : LineId) : (s.setSession x).line n' = s.line n' := rfl
@[simp] theorem State.setSession_master (x : Session) (m' : MasterId) : (s.setSession x).master m' = s.master m' := rfl
@[simp] theorem State.setSession_stat (x : Session) (m' : MasterId) : (s.setSession x).stat m' = s.stat m' := rfl
@[simp] theorem State.setSession_port (x : Session) (p' : PortId) : (s.setSession x).port p' = s.port p' := rfl
@[simp] theorem State.setSession_input (x : Session) (n' : LineId) : (s.setSession x).input n' = s.input n' := rfl

/-! ### What an update writes -/

@[simp] theorem State.setTable_table (t : List Entry) : (s.setTable t).table = t := rfl
@[simp] theorem State.setSession_session (x : Session) : (s.setSession x).session = x := rfl

theorem State.setLine_line (n n' : LineId) (r : Line) :
    (s.setLine n r).line n' = if n' = n then r else s.line n' := get_set _ _ _ _

@[simp] theorem State.setLine_line_same (n : LineId) (r : Line) : (s.setLine n r).line n = r :=
  get_set_same _ _ _

@[simp] theorem State.setLine_line_other (n n' : LineId) (r : Line) (h : n' ≠ n) :
    (s.setLine n r).line n' = s.line n' := get_set_other _ _ _ _ h

theorem State.setMaster_master (m m' : MasterId) (r : Master) :
    (s.setMaster m r).master m' = if m' = m then r else s.master m' := get_set _ _ _ _

@[simp] theorem State.setMaster_master_same (m : MasterId) (r : Master) : (s.setMaster m r).master m = r :=
  get_set_same _ _ _

@[simp] theorem State.setMaster_master_other (m m' : MasterId) (r : Master) (h : m' ≠ m) :
    (s.setMaster m r).master m' = s.master m' := get_set_other _ _ _ _ h

theorem State.setStat_stat (m m' : MasterId) (r : StatusRecord) :
    (s.setStat m r).stat m' = if m' = m then r else s.stat m' := get_set _ _ _ _

@[simp] theorem State.setStat_stat_same (m : MasterId) (r : StatusRecord) : (s.setStat m r).stat m = r :=
  get_set_same _ _ _

@[simp] theorem State.setStat_stat_other (m m' : MasterId) (r : StatusRecord) (h : m' ≠ m) :
    (s.setStat m r).stat m' = s.stat m' := get_set_other _ _ _ _ h

theorem State.setPort_port (p p' : PortId) (r : Port) :
    (s.setPort p r).port p' = if p' = p then r else s.port p' := get_set _ _ _ _

@[simp] theorem State.setPort_port_same (p : PortId) (r : Port) : (s.setPort p r).port p = r :=
  get_set_same _ _ _

@[simp] theorem State.setPort_port_other (p p' : PortId) (r : Port) (h : p' ≠ p) :
    (s.setPort p r).port p' = s.port p' := get_set_other _ _ _ _ h

theorem State.updLine_line (n n' : LineId) (f : Line → Line) :
    (s.updLine n f).line n' = if n' = n then f (s.line n) else s.line n' :=
  get_set _ _ _ _

@[simp] theorem State.updLine_line_same (n : LineId) (f : Line → Line) :
    (s.updLine n f).line n = f (s.line n) := get_set_same _ _ _

@[simp] theorem State.updLine_line_other (n n' : LineId) (f : Line → Line) (h : n' ≠ n) :
    (s.updLine n f).line n' = s.line n' := get_set_other _ _ _ _ h

theorem State.updPort_port (p p' : PortId) (f : Port → Port) :
    (s.updPort p f).port p' = if p' = p then f (s.port p) else s.port p' :=
  get_set _ _ _ _

@[simp] theorem State.updPort_port_same (p : PortId) (f : Port → Port) :
    (s.updPort p f).port p = f (s.port p) := get_set_same _ _ _

@[simp] theorem State.updPort_port_other (p p' : PortId) (f : Port → Port) (h : p' ≠ p) :
    (s.updPort p f).port p' = s.port p' := get_set_other _ _ _ _ h

/-! ### Sticky flags and notices: they change the status records alone -/

@[simp] theorem setFlag_rstn (m : MasterId) (f : Flag) : (setFlag m f s).rstn = s.rstn := rfl
@[simp] theorem setFlag_count (m : MasterId) (f : Flag) : (setFlag m f s).count = s.count := rfl
@[simp] theorem setFlag_linkAddress (m : MasterId) (f : Flag) : (setFlag m f s).linkAddress = s.linkAddress := rfl
@[simp] theorem setFlag_hold (m : MasterId) (f : Flag) : (setFlag m f s).hold = s.hold := rfl
@[simp] theorem setFlag_fbk (m : MasterId) (f : Flag) : (setFlag m f s).fbk = s.fbk := rfl
@[simp] theorem setFlag_lines (m : MasterId) (f : Flag) : (setFlag m f s).lines = s.lines := rfl
@[simp] theorem setFlag_table (m : MasterId) (f : Flag) : (setFlag m f s).table = s.table := rfl
@[simp] theorem setFlag_nextId (m : MasterId) (f : Flag) : (setFlag m f s).nextId = s.nextId := rfl
@[simp] theorem setFlag_masters (m : MasterId) (f : Flag) : (setFlag m f s).masters = s.masters := rfl
@[simp] theorem setFlag_config (m : MasterId) (f : Flag) : (setFlag m f s).config = s.config := rfl
@[simp] theorem setFlag_generation (m : MasterId) (f : Flag) : (setFlag m f s).generation = s.generation := rfl
@[simp] theorem setFlag_session (m : MasterId) (f : Flag) : (setFlag m f s).session = s.session := rfl
@[simp] theorem setFlag_lastRestart (m : MasterId) (f : Flag) : (setFlag m f s).lastRestart = s.lastRestart := rfl
@[simp] theorem setFlag_ports (m : MasterId) (f : Flag) : (setFlag m f s).ports = s.ports := rfl
@[simp] theorem setFlag_pending (m : MasterId) (f : Flag) : (setFlag m f s).pending = s.pending := rfl
@[simp] theorem setFlag_line (m : MasterId) (f : Flag) (n' : LineId) : (setFlag m f s).line n' = s.line n' := rfl
@[simp] theorem setFlag_master (m : MasterId) (f : Flag) (m' : MasterId) : (setFlag m f s).master m' = s.master m' := rfl
@[simp] theorem setFlag_port (m : MasterId) (f : Flag) (p' : PortId) : (setFlag m f s).port p' = s.port p' := rfl
@[simp] theorem setFlag_input (m : MasterId) (f : Flag) (n' : LineId) : (setFlag m f s).input n' = s.input n' := rfl

@[simp] theorem setFlagAll_rstn (f : Flag) : (setFlagAll f s).rstn = s.rstn := rfl
@[simp] theorem setFlagAll_count (f : Flag) : (setFlagAll f s).count = s.count := rfl
@[simp] theorem setFlagAll_linkAddress (f : Flag) : (setFlagAll f s).linkAddress = s.linkAddress := rfl
@[simp] theorem setFlagAll_hold (f : Flag) : (setFlagAll f s).hold = s.hold := rfl
@[simp] theorem setFlagAll_fbk (f : Flag) : (setFlagAll f s).fbk = s.fbk := rfl
@[simp] theorem setFlagAll_lines (f : Flag) : (setFlagAll f s).lines = s.lines := rfl
@[simp] theorem setFlagAll_table (f : Flag) : (setFlagAll f s).table = s.table := rfl
@[simp] theorem setFlagAll_nextId (f : Flag) : (setFlagAll f s).nextId = s.nextId := rfl
@[simp] theorem setFlagAll_masters (f : Flag) : (setFlagAll f s).masters = s.masters := rfl
@[simp] theorem setFlagAll_config (f : Flag) : (setFlagAll f s).config = s.config := rfl
@[simp] theorem setFlagAll_generation (f : Flag) : (setFlagAll f s).generation = s.generation := rfl
@[simp] theorem setFlagAll_session (f : Flag) : (setFlagAll f s).session = s.session := rfl
@[simp] theorem setFlagAll_lastRestart (f : Flag) : (setFlagAll f s).lastRestart = s.lastRestart := rfl
@[simp] theorem setFlagAll_ports (f : Flag) : (setFlagAll f s).ports = s.ports := rfl
@[simp] theorem setFlagAll_pending (f : Flag) : (setFlagAll f s).pending = s.pending := rfl
@[simp] theorem setFlagAll_line (f : Flag) (n' : LineId) : (setFlagAll f s).line n' = s.line n' := rfl
@[simp] theorem setFlagAll_master (f : Flag) (m' : MasterId) : (setFlagAll f s).master m' = s.master m' := rfl
@[simp] theorem setFlagAll_port (f : Flag) (p' : PortId) : (setFlagAll f s).port p' = s.port p' := rfl
@[simp] theorem setFlagAll_input (f : Flag) (n' : LineId) : (setFlagAll f s).input n' = s.input n' := rfl

@[simp] theorem raise_rstn (nt : Notice) : (raise nt s).rstn = s.rstn := rfl
@[simp] theorem raise_count (nt : Notice) : (raise nt s).count = s.count := rfl
@[simp] theorem raise_linkAddress (nt : Notice) : (raise nt s).linkAddress = s.linkAddress := rfl
@[simp] theorem raise_hold (nt : Notice) : (raise nt s).hold = s.hold := rfl
@[simp] theorem raise_fbk (nt : Notice) : (raise nt s).fbk = s.fbk := rfl
@[simp] theorem raise_lines (nt : Notice) : (raise nt s).lines = s.lines := rfl
@[simp] theorem raise_table (nt : Notice) : (raise nt s).table = s.table := rfl
@[simp] theorem raise_nextId (nt : Notice) : (raise nt s).nextId = s.nextId := rfl
@[simp] theorem raise_masters (nt : Notice) : (raise nt s).masters = s.masters := rfl
@[simp] theorem raise_config (nt : Notice) : (raise nt s).config = s.config := rfl
@[simp] theorem raise_generation (nt : Notice) : (raise nt s).generation = s.generation := rfl
@[simp] theorem raise_session (nt : Notice) : (raise nt s).session = s.session := rfl
@[simp] theorem raise_lastRestart (nt : Notice) : (raise nt s).lastRestart = s.lastRestart := rfl
@[simp] theorem raise_ports (nt : Notice) : (raise nt s).ports = s.ports := rfl
@[simp] theorem raise_pending (nt : Notice) : (raise nt s).pending = s.pending := rfl
@[simp] theorem raise_line (nt : Notice) (n' : LineId) : (raise nt s).line n' = s.line n' := rfl
@[simp] theorem raise_master (nt : Notice) (m' : MasterId) : (raise nt s).master m' = s.master m' := rfl
@[simp] theorem raise_port (nt : Notice) (p' : PortId) : (raise nt s).port p' = s.port p' := rfl
@[simp] theorem raise_input (nt : Notice) (n' : LineId) : (raise nt s).input n' = s.input n' := rfl

/-- Setting a flag of one master changes that master's flags alone. -/
theorem setFlag_stat (m k : MasterId) (f : Flag) :
    (setFlag m f s).stat k = if k = m then (s.stat m).setFlag f else s.stat k := get_set _ _ _ _

/-- Setting a flag of all masters changes each master's flags. -/
@[simp] theorem setFlagAll_stat (f : Flag) (k : MasterId) :
    (setFlagAll f s).stat k = (s.stat k).setFlag f := get_eachRecord _ _ _

/-- What raising a notice does to each master's status record (R161). -/
theorem raise_stat (nt : Notice) (k : MasterId) :
    (raise nt s).stat k = if s.routed nt k then (s.stat k).enqueue nt else s.stat k := get_ofFn _ _

@[simp] theorem StatusRecord.setFlag_mask (r : StatusRecord) (f : Flag) : (r.setFlag f).mask = r.mask := rfl
@[simp] theorem StatusRecord.setFlag_queue (r : StatusRecord) (f : Flag) : (r.setFlag f).queue = r.queue := rfl
@[simp] theorem StatusRecord.setFlag_seq (r : StatusRecord) (f : Flag) : (r.setFlag f).seq = r.seq := rfl

@[simp] theorem StatusRecord.enqueue_mask (r : StatusRecord) (nt : Notice) :
    (r.enqueue nt).mask = r.mask := by
  unfold StatusRecord.enqueue; split
  · rfl
  · split <;> rfl

@[simp] theorem StatusRecord.enqueue_seq (r : StatusRecord) (nt : Notice) :
    (r.enqueue nt).seq = r.seq := by
  unfold StatusRecord.enqueue; split
  · rfl
  · split <;> rfl

@[simp] theorem raise_mask (nt : Notice) (k : MasterId) :
    ((raise nt s).stat k).mask = (s.stat k).mask := by
  rw [raise_stat]; split <;> simp

@[simp] theorem setFlag_mask (m k : MasterId) (f : Flag) :
    ((setFlag m f s).stat k).mask = (s.stat k).mask := by
  rw [setFlag_stat]; split
  · next h => simp [h]
  · rfl

/-- Two states with the same fields are equal. -/
theorem State.ext_fields {s t : State} (h1 : t.rstn = s.rstn) (h2 : t.count = s.count)
    (h3 : t.linkAddress = s.linkAddress) (h4 : t.hold = s.hold) (h5 : t.fbk = s.fbk)
    (h6 : t.lines = s.lines) (h7 : t.table = s.table) (h8 : t.nextId = s.nextId)
    (h9 : t.masters = s.masters) (h10 : t.config = s.config) (h11 : t.generation = s.generation)
    (h12 : t.session = s.session) (h13 : t.status = s.status) (h14 : t.lastRestart = s.lastRestart)
    (h15 : t.ports = s.ports) (h16 : t.pending = s.pending) : t = s := by
  cases s; cases t; simp_all

end Sys2Proof.Machine
end

