-- ==== Sys2Proof/Laws/Lines.lean ====
section
/-! SUPPORT. What each shared operation on a line can do, said once: a claim, a lease end, entering MISMATCH, and
the raising of a notice. -/

namespace Sys2Proof.Machine

open Sys2Proof

variable (s : State)

/-! ### Notices -/

/-- Raising a notice gives each status record what `noticed` says (R161, R163). -/
theorem raise_noticed (nt : Notice) (m : MasterId) :
    (raise nt s).stat m = noticed s m nt (s.stat m) := by
  rw [raise_stat]
  simp [noticed, State.routed, Bool.and_eq_true]

/-- `noticed` reads the presence of the masters alone. -/
theorem noticed_congr {s t : State} (h : ∀ m, (t.master m).presence = (s.master m).presence)
    (m : MasterId) (nt : Notice) (r : StatusRecord) : noticed t m nt r = noticed s m nt r := by
  simp [noticed, h]

/-- Notices are raised one after another. -/
@[simp] theorem told_nil (m : MasterId) (r : StatusRecord) : told s m [] r = r := rfl

@[simp] theorem told_cons (m : MasterId) (nt : Notice) (rest : List Notice) (r : StatusRecord) :
    told s m (nt :: rest) r = told s m rest (noticed s m nt r) := rfl

theorem told_append (m : MasterId) (a b : List Notice) (r : StatusRecord) :
    told s m (a ++ b) r = told s m b (told s m a r) := List.foldl_append

/-- A notice and a flag leave the subscription mask as it was. -/
@[simp] theorem noticed_mask (m : MasterId) (nt : Notice) (r : StatusRecord) :
    (noticed s m nt r).mask = r.mask := by
  unfold noticed; split <;> simp

/-! ### Driven levels -/

@[simp] theorem drivenLevel_settleOnChange (h : HoldLevel) (now : W32) (l : Line) :
    drivenLevel h (l.settleOnChange now) = drivenLevel h l := by
  unfold Line.settleOnChange; split <;> rfl

/-- A line that is not commanded ACTIVE is driven safe (R5). -/
theorem drivenLevel_released (h : HoldLevel) (l : Line) (hc : l.commanded = .released) :
    drivenLevel h l = l.cfg.safe := by
  simp [drivenLevel, hc]

/-- A line is driven safe while HOLD is asserted (R5). -/
theorem drivenLevel_held (l : Line) : drivenLevel .asserted l = l.cfg.safe := by
  simp [drivenLevel]

/-- Which lines and qualified level a driven level reads (R5). -/
theorem State.driven_eq (n : LineId) : s.driven n = drivenLevel s.hold.qualified (s.line n) := rfl

/-! ### Claims -/

/-- Reporting a change writes the line's feedback fields and the status records alone (R6 to R8). -/
theorem reportChange_frame (n : LineId) (before : Level) (cause : Cause) :
    reportChange n before cause s =
      { s with lines := (reportChange n before cause s).lines,
               status := (reportChange n before cause s).status } := by
  unfold reportChange; split <;> rfl

/-- What reporting a change leaves of the line (R7, R76). -/
theorem reportChange_line (n : LineId) (before : Level) (cause : Cause) :
    (reportChange n before cause s).line n =
      if s.driven n = before then s.line n else (s.line n).settleOnChange s.count := by
  unfold reportChange; split
  · rfl
  · rw [State.updLine_line_same]; rfl

/-- Reporting a change of one line leaves the other lines. -/
theorem reportChange_other (n k : LineId) (before : Level) (cause : Cause) (h : k ≠ n) :
    (reportChange n before cause s).line k = s.line k := by
  unfold reportChange; split
  · rfl
  · rw [State.updLine_line_other _ _ _ _ h]; rfl

/-- Reporting a change raises at most the one LINE_CHANGED (R6, R8). -/
theorem reportChange_status (n : LineId) (before : Level) (cause : Cause) (m : MasterId) :
    (reportChange n before cause s).stat m =
      if s.driven n = before then s.stat m
      else noticed s m (.lineChanged n (s.driven n) (s.line n).commanded cause) (s.stat m) := by
  unfold reportChange; split
  · rfl
  · rw [State.updLine_stat]; exact raise_noticed _ _ _

/-- One claim on a line, said whole (R4 to R8, R76). -/
theorem lineClaim_taken (n : LineId) (cause : Cause) (f : Line → Line) :
    ClaimTaken n cause f s (lineClaim n cause f s) where
  frame := by
    unfold lineClaim; rw [reportChange_frame]; rfl
  others := by
    intro k hk
    unfold lineClaim
    rw [reportChange_other _ _ _ _ _ hk, State.updLine_line_other _ _ _ _ hk]
  line := by
    unfold lineClaim
    rw [reportChange_line]
    simp only [State.driven_eq, State.updLine_hold, State.updLine_line_same, State.updLine_count]
    rfl
  status := by
    intro m
    unfold lineClaim
    rw [reportChange_status]
    simp only [State.driven_eq, State.updLine_hold, State.updLine_line_same, State.updLine_stat]
    rfl

/-- A lease end, said whole (R66). -/
theorem endLease_ends (n : LineId) (m : MasterId) (reason : LeaseReason) (cause : Cause)
    (h : (s.line n).owner = some m) :
    LeaseEnds n m reason cause s (endLease n reason cause s) where
  frame := by
    unfold endLease; rw [h]; simp only
    rw [reportChange_frame]
    unfold leaseEndReport; split <;> rfl
  others := by
    intro k hk
    unfold endLease; rw [h]; simp only
    rw [reportChange_other _ _ _ _ _ hk]
    unfold leaseEndReport; split <;> simp [hk]
  line := by
    unfold endLease; rw [h]; simp only
    rw [reportChange_line]
    have e : ∀ x : State, (leaseEndReport n m reason x).line n = x.line n := by
      intro x; unfold leaseEndReport; split <;> rfl
    have e1 : ∀ x : State, (leaseEndReport n m reason x).hold = x.hold := by
      intro x; unfold leaseEndReport; split <;> rfl
    have e2 : ∀ x : State, (leaseEndReport n m reason x).count = x.count := by
      intro x; unfold leaseEndReport; split <;> rfl
    simp only [State.driven_eq, e, e1, e2, State.updLine_hold, State.updLine_line_same,
      State.updLine_count]
    rfl
  status := by
    intro k
    unfold endLease; rw [h]; simp only
    rw [reportChange_status]
    have e : ∀ x : State, (leaseEndReport n m reason x).line n = x.line n := by
      intro x; unfold leaseEndReport; split <;> rfl
    have e1 : ∀ x : State, (leaseEndReport n m reason x).hold = x.hold := by
      intro x; unfold leaseEndReport; split <;> rfl
    have e3 : (leaseEndReport n m reason (s.updLine n Line.dropLease)).stat k =
        if k = m ∧ reason ≠ .relinquished then
          (noticed s k (.leaseEnded n m reason) (s.stat k)).setFlag .leaseLost
        else noticed s k (.leaseEnded n m reason) (s.stat k) := by
      unfold leaseEndReport
      by_cases hr : reason = .relinquished
      · simp only [hr, if_true, ne_eq, not_true_eq_false, and_false, if_false]
        exact raise_noticed _ _ _
      · simp only [hr, if_false, ne_eq, not_false_eq_true, and_true]
        rw [setFlag_stat]
        split
        · next hk => subst hk; rw [raise_noticed]; rfl
        · exact raise_noticed _ _ _
    have e4 : ∀ (nt : Notice) (r : StatusRecord),
        noticed (leaseEndReport n m reason (s.updLine n Line.dropLease)) k nt r = noticed s k nt r := by
      intro nt r; unfold leaseEndReport; split <;> rfl
    have e5 : drivenLevel s.hold.qualified (Line.dropLease (s.line n)) = (s.line n).cfg.safe :=
      drivenLevel_released _ _ rfl
    simp only [State.driven_eq, e, e1, e3, e4, State.updLine_hold, State.updLine_line_same]
    have e6 : leaseless (s.line n) = Line.dropLease (s.line n) := rfl
    simp only [e6]
    split
    · rfl
    · rw [e5]; rfl

/-! ### Feedback -/

/-- Entering MISMATCH, said whole (R80, R81). -/
theorem enterMismatch_enters (n : LineId) : EntersMismatch n s (enterMismatch n s) where
  frame := rfl
  others := by
    intro k hk
    simp [enterMismatch, hk]
  line := by
    simp [enterMismatch]
  status := by
    intro m
    unfold enterMismatch
    rw [raise_noticed]
    simp only [setFlagAll_stat, State.updLine_stat]
    rfl

end Sys2Proof.Machine
end

