-- ==== Sys2Proof/Laws/Links.lean ====
section
/-! SUPPORT. What the shared operations of a port can do, said once: the trim of the receive buffer, the entry to
QUIET by an error, and a character taken by the assembly record. -/

namespace Sys2Proof.Machine

open Sys2Proof

variable (s : State)

/-! ### Entering QUIET -/

/-- A buffer that ends in an END or FAIL is kept up to there (R180 step 4). -/
theorem keptChars_cons (c : RxChar) (rest : List RxChar) :
    keptChars (c :: rest) =
      if keptChars rest = [] ∧ c.isData = true then [] else c :: keptChars rest := by
  unfold keptChars
  rw [List.reverse_cons, List.dropWhile_append]
  by_cases h : rest.reverse.dropWhile RxChar.isData = []
  · cases hc : c.isData <;> simp [h, hc]
  · have hn : (rest.reverse.dropWhile RxChar.isData).isEmpty = false := by simpa using h
    simp [h, hn]

/-- The trim of the receive buffer keeps the characters up to and including the last END or FAIL (R180 step 4). -/
theorem trimBuffer_eq (rx : List RxChar) : trimBuffer rx = keptChars rx := by
  induction rx with
  | nil => rfl
  | cons c rest ih =>
    rw [keptChars_cons, ← ih]
    cases c <;> cases h : trimBuffer rest <;> simp [trimBuffer, h, RxChar.isData]

/-- The trim keeps a front part of the buffer. -/
theorem trimBuffer_prefix (rx : List RxChar) : trimBuffer rx <+: rx := by
  rw [trimBuffer_eq]
  obtain ⟨l, hl⟩ := List.dropWhile_suffix (l := rx.reverse) RxChar.isData
  exact ⟨l.reverse, by rw [keptChars, ← List.reverse_append, hl, List.reverse_reverse]⟩

/-- The trim discards something exactly when it changes the buffer. -/
theorem trimBuffer_length (rx : List RxChar) : (trimBuffer rx).length < rx.length ↔ keptChars rx ≠ rx := by
  have hp := trimBuffer_prefix rx
  rw [← trimBuffer_eq]
  refine ⟨fun h he => by rw [he] at h; exact absurd h (lt_irrefl _), fun h => ?_⟩
  exact lt_of_le_of_ne hp.length_le fun he => h (hp.eq_of_length he)

/-- Setting a flag twice sets it (section 8.2). -/
@[simp] theorem StatusRecord.setFlag_setFlag (r : StatusRecord) (f : Flag) :
    (r.setFlag f).setFlag f = r.setFlag f := by
  simp [StatusRecord.setFlag, withFlag, addBit, BitVec.or_assoc]

/-- Entering QUIET by an error, said whole (R134, R180). -/
theorem enterQuiet_entered (p : PortId) : QuietEntered p s (enterQuiet p s) := by
  have hp : (s.port p).assembly.partialPacket = true ↔ partialPacket (s.port p) := by
    simp [Assembly.partialPacket]
  constructor
  · unfold enterQuiet; simp only; split <;> split <;> rfl
  · intro k hk
    unfold enterQuiet discardPacket State.setAssembly; simp only
    split <;> split <;> simp [setFlag_stat, hk]
  · unfold enterQuiet discardPacket State.setAssembly
    simp only [hp]
    split <;> split <;> simp [Port.toQuiet, trimBuffer_eq, Config.holdoffNs]
  · unfold enterQuiet discardPacket State.setAssembly
    simp only [hp, trimBuffer_length]
    split <;> split <;> rename_i h1 h2 <;> simp [setFlag_stat, h1, h2]

/-! ### A character taken -/

/-- A character taken while no packet waits, said whole (R131, R132). -/
theorem takeChar_taken (p : PortId) (c : RxChar) (h : (s.port p).assembly.state ≠ .waiting) :
    CharTaken p s c (takeChar p c s) := by
  cases hs : (s.port p).assembly.state with
  | waiting => exact absurd hs h
  | idle =>
    cases c <;> simp only [takeChar, takeData, takeEnd, takeFail, hs]
    · exact .first _ hs
    · exact .empty hs
    · exact .failed h
  | overlong =>
    cases c <;> simp only [takeChar, takeData, takeEnd, takeFail, hs]
    · exact .dropped _ hs
    · exact .long hs
    · exact .failed h
  | gathering =>
    cases c <;> simp only [takeChar, takeData, takeEnd, takeFail, hs, completePacket]
    · split
      · next hl => exact .next _ hs hl
      · next hl => exact .tooMany _ hs (Nat.not_lt.mp hl)
    · split
      · next hl => exact .short hs hl
      · next hl =>
        split
        · next hr => exact .processed hs (Nat.not_lt.mp hl) (of_decide_eq_true hr)
        · next hr => exact .waits hs (Nat.not_lt.mp hl) (Nat.not_lt.mp fun x => hr (decide_eq_true x))
    · exact .failed h

end Sys2Proof.Machine
end

