-- ==== Sys2Proof/Laws/Packets.lean ====
section
/-! SUPPORT. What a well-made request packet is read as: its fields, its check byte, its parameters; and the bytes of
a notice and of the line result as chapter 10 spells them. -/

namespace Sys2Proof.Machine

open Sys2Proof

/-! ### Words and fields -/

/-- The two bytes of a word read back as the word (spec/00 section 4.1). -/
@[simp] theorem bytesWord_wordBytes (w : W16) :
    bytesWord (w.extractLsb' 8 8) (w.extractLsb' 0 8) = w := by
  apply BitVec.eq_of_getLsbD_eq
  intro i hi
  simp only [bytesWord, BitVec.getLsbD_append, BitVec.getLsbD_extractLsb']
  by_cases h : i < 8
  · simp [h]
  · have h8 : i - 8 < 8 := by omega
    have e : 8 + (i - 8) = i := by omega
    simp [h, h8, e]

@[simp] theorem length_wordBytes (w : W16) : (wordBytes w).length = 2 := rfl

@[simp] theorem lineOf_lineByte (n : LineId) : lineOf (lineByte n) = some n := by
  have h : (lineByte n).toNat = n.val := by
    simp [lineByte, byteOf]; omega
  simp [lineOf, h]

@[simp] theorem masterOf_masterByte (m : MasterId) : masterOf (masterByte m) = some m := by
  have h : (masterByte m).toNat = m.val := by
    simp [masterByte, byteOf]; omega
  simp [masterOf, h]

/-! ### A request packet -/

/-- The fields of a request packet (section 10.1). -/
@[simp] theorem parsePacket_requestPacket (dest src tag code : Byte) (params : List Byte) :
    parsePacket (requestPacket dest src tag code params) =
      some (dest, ⟨src, tag, code, params, crc8 ([dest, src, tag, code] ++ params)⟩) := by
  cases params with
  | nil => rfl
  | cons b rest =>
    have h (x : Byte) : (b :: (rest ++ [x])).dropLast = b :: rest :=
      List.dropLast_concat (l₁ := b :: rest)
    simp [requestPacket, parsePacket, h]

/-- A packet closed by the CRC-8 of what precedes it has a good check byte (R136). -/
theorem checkByteGood_append_crc8 (body : List Byte) :
    checkByteGood (body ++ [crc8 body]) = true := by
  have h1 : (body ++ [crc8 body]).getLast? = some (crc8 body) := List.getLast?_concat
  have h2 : (body ++ [crc8 body]).dropLast = body := List.dropLast_concat
  unfold checkByteGood
  simp [h1, h2]

/-- The check byte of a request packet is good (R136). -/
@[simp] theorem checkByteGood_requestPacket (dest src tag code : Byte) (params : List Byte) :
    checkByteGood (requestPacket dest src tag code params) = true :=
  checkByteGood_append_crc8 _

/-- A request packet that reaches the part is an accepted request (R135 steps 1 to 3). -/
@[simp] theorem processPacket_requestPacket (p : PortId) (s : State) (src tag code : Byte)
    (params : List Byte) :
    processPacket p (requestPacket s.linkAddress src tag code params) s =
      acceptRequest p ⟨src, tag, code, params, crc8 ([s.linkAddress, src, tag, code] ++ params)⟩ s := by
  simp [processPacket]

/-! ### Codes -/

/-- A request code is found by its byte (Table 10-1). -/
@[simp] theorem requestCodeOf_byte (c : RequestCode) : requestCodeOf c.byte = some c := by
  cases c <;> rfl

/-- The response code of one of the twenty-two codes (R142). -/
theorem responseCode_byte (c : RequestCode) (st : Status) (h : st ≠ .code) :
    responseCode c.byte st = c.byte + 0x80#8 := by
  simp [responseCode, h]

/-- Decoding goes on to the fields when the parameter length is the code's (R140 checks 1 and 2). -/
theorem decodeRequest_of_length (c : RequestCode) (params : List Byte)
    (h : params.length = c.paramLength) : decodeRequest c.byte params = decodeFields c params := by
  simp [decodeRequest, h]

/-! ### The parameter fields of each code -/

theorem decodeFields_readStatus : decodeFields .readStatus [] = .ok .readStatus := rfl
theorem decodeFields_readLines : decodeFields .readLines [] = .ok .readLines := rfl
theorem decodeFields_readLine (n : Byte) : decodeFields .readLine [n] = onLine n .readLine := rfl
theorem decodeFields_readProposals (b : Byte) :
    decodeFields .readProposals [b] = .ok (.readProposals b) := rfl
theorem decodeFields_readConfig (t : Byte) : decodeFields .readConfig [t] = onTarget t .readConfig := rfl
theorem decodeFields_readShadow (t : Byte) : decodeFields .readShadow [t] = onTarget t .readShadow := rfl
theorem decodeFields_heartbeat : decodeFields .heartbeat [] = .ok .heartbeat := rfl
theorem decodeFields_subscribe (b : Byte) :
    decodeFields .subscribe [b] = .ok (.subscribe (b.setWidth 6)) := rfl
theorem decodeFields_resync : decodeFields .resync [] = .ok .resync := rfl
theorem decodeFields_assertLine (n : Byte) :
    decodeFields .assertLine [n] = onLine n .assertLine := rfl
theorem decodeFields_releaseLine (n : Byte) :
    decodeFields .releaseLine [n] = onLine n .releaseLine := rfl
theorem decodeFields_claimLine (n d1 d0 : Byte) :
    decodeFields .claimLine [n, d1, d0] = onLine n fun l => .claimLine l (bytesWord d1 d0) := rfl
theorem decodeFields_renewLease (n d1 d0 : Byte) :
    decodeFields .renewLease [n, d1, d0] = onLine n fun l => .renewLease l (bytesWord d1 d0) := rfl
theorem decodeFields_relinquishLine (n : Byte) :
    decodeFields .relinquishLine [n] = onLine n .relinquishLine := rfl
theorem decodeFields_pulseLine (n d1 d0 : Byte) :
    decodeFields .pulseLine [n, d1, d0] = onLine n fun l => .pulseLine l (bytesWord d1 d0) := rfl
theorem decodeFields_propose (k i a g1 g0 : Byte) :
    decodeFields .propose [k, i, a, g1, g0] = decodePropose k i a (bytesWord g1 g0) := rfl
theorem decodeFields_withdraw (id : Byte) : decodeFields .withdraw [id] = .ok (.withdraw id) := rfl
theorem decodeFields_openConfig : decodeFields .openConfig [] = .ok .openConfig := rfl
theorem decodeFields_writeLineConfig (n sel pol quo safe p1 p0 l1 l0 fb st : Byte) :
    decodeFields .writeLineConfig [n, sel, pol, quo, safe, p1, p0, l1, l0, fb, st] =
      onLine n fun l => .writeLineConfig l sel
        ⟨pol, quo, safe, bytesWord p1 p0, bytesWord l1 l0, fb, st⟩ := rfl
theorem decodeFields_writeGlobalConfig (sel t1 t0 w1 w0 qq rq cq ports : Byte) :
    decodeFields .writeGlobalConfig [sel, t1, t0, w1, w0, qq, rq, cq, ports] =
      .ok (.writeGlobalConfig sel ⟨bytesWord t1 t0, bytesWord w1 w0, qq, rq, cq, ports⟩) := rfl
theorem decodeFields_commitConfig : decodeFields .commitConfig [] = .ok .commitConfig := rfl
theorem decodeFields_closeConfig : decodeFields .closeConfig [] = .ok .closeConfig := rfl

/-- A notification carries the kind byte and the payload of its notice as section 10.4 spells them. -/
theorem noticeBytes_eq (nt : Notice) : noticeBytes nt = nt.kindByte :: nt.payload := by
  cases nt with
  | masterChanged m c p q => cases p <;> rfl
  | _ => rfl

/-- The line result is nine bytes, as section 10.3 spells them. -/
theorem nineBytes_eq (t : State) (n : LineId) : nineBytes t n = lineResult t n := by
  unfold nineBytes lineResult wordBytes
  cases h : (t.line n).commanded <;> cases t.driven n <;> simp [Commanded.byte, levelByte, h]

/-- A line request whose line byte names a line goes on with that line. -/
@[simp] theorem onLine_lineByte (n : LineId) (f : LineId → Request) :
    onLine (lineByte n) f = .ok (f n) := by
  simp [onLine]

/-- A line byte above 15 is refused with RANGE (R195). -/
theorem onLine_range (b : Byte) (f : LineId → Request) (h : 16 ≤ b.toNat) :
    onLine b f = .error .range := by
  have h' : ¬ b.toNat < 16 := by omega
  simp [onLine, lineOf, h']

end Sys2Proof.Machine
end

