-- ==== Sys2Proof/Laws/PerInstr.lean ====
section
/-! SUPPORT. A family of statements made for every command: the parameter bytes of a request command have the length
that Table 10-1 gives its code (R193). A command that is no request spells no packet. -/

namespace Sys2Proof.Laws.RequestLength

open Sys2Proof Sys2Proof.Machine

/-- A request command's parameter bytes have the length of its code (R193). -/
def Statement (i : Instr) : Prop :=
  ∀ p src tag code params, requestOf i = some (p, src, tag, code, params) →
    params.length = code.paramLength

/-- A command that is no request. -/
theorem of_none {i : Instr} (h : requestOf i = none) : Statement i := by
  intro p src tag code params hi
  rw [h] at hi
  exact nomatch hi

/-- A request command, by the length of its parameters. -/
theorem of_some {i : Instr} {p : PortId} {src tag : Byte} {code : RequestCode} {params : List Byte}
    (h : requestOf i = some (p, src, tag, code, params)) (hl : params.length = code.paramLength) :
    Statement i := by
  intro p' src' tag' code' params' hi
  rw [h] at hi
  injection hi with hi
  cases hi
  exact hl

theorem rstnAsserted :
    Statement .rstnAsserted := of_none rfl

theorem rstnReleased (cfgsel : Level) (adrs : Byte) (holdPin : Level) (fbkPins : W16) :
    Statement (.rstnReleased cfgsel adrs holdPin fbkPins) := of_none rfl

theorem holdInputChange (level : Level) :
    Statement (.holdInputChange level) := of_none rfl

theorem holdAsserted :
    Statement .holdAsserted := of_none rfl

theorem holdReleased :
    Statement .holdReleased := of_none rfl

theorem feedbackInputChange (n : LineId) (level : Level) :
    Statement (.feedbackInputChange n level) := of_none rfl

theorem pulseDeadline (n : LineId) :
    Statement (.pulseDeadline n) := of_none rfl

theorem leaseDeadline (n : LineId) :
    Statement (.leaseDeadline n) := of_none rfl

theorem settleDeadline (n : LineId) :
    Statement (.settleDeadline n) := of_none rfl

theorem presenceDeadline (m : MasterId) :
    Statement (.presenceDeadline m) := of_none rfl

theorem entryDeadline (id : Byte) :
    Statement (.entryDeadline id) := of_none rfl

theorem idleDeadline :
    Statement .idleDeadline := of_none rfl

theorem holdoffDeadline (p : PortId) :
    Statement (.holdoffDeadline p) := of_none rfl

theorem handshakeTimeout (p : PortId) :
    Statement (.handshakeTimeout p) := of_none rfl

theorem disconnectDeadline (p : PortId) :
    Statement (.disconnectDeadline p) := of_none rfl

theorem receiveData (p : PortId) (b : Byte) :
    Statement (.receiveData p b) := of_none rfl

theorem receiveEnd (p : PortId) :
    Statement (.receiveEnd p) := of_none rfl

theorem receiveFail (p : PortId) :
    Statement (.receiveFail p) := of_none rfl

theorem receiveGrant (p : PortId) :
    Statement (.receiveGrant p) := of_none rfl

theorem receiveIdle (p : PortId) :
    Statement (.receiveIdle p) := of_none rfl

theorem parityError (p : PortId) :
    Statement (.parityError p) := of_none rfl

theorem transmitCharacter (p : PortId) :
    Statement (.transmitCharacter p) := of_none rfl

theorem packetEndSent (p : PortId) :
    Statement (.packetEndSent p) := of_none rfl

theorem processWaitingPacket (p : PortId) :
    Statement (.processWaitingPacket p) := of_none rfl

theorem readStatus (p : PortId) (src tag : Byte) :
    Statement (.readStatus p src tag) := of_some rfl rfl

theorem readLines (p : PortId) (src tag : Byte) :
    Statement (.readLines p src tag) := of_some rfl rfl

theorem readLine (p : PortId) (src tag : Byte) (line : Byte) :
    Statement (.readLine p src tag line) := of_some rfl rfl

theorem readProposals (p : PortId) (src tag : Byte) (start : Byte) :
    Statement (.readProposals p src tag start) := of_some rfl rfl

theorem readConfig (p : PortId) (src tag : Byte) (target : Byte) :
    Statement (.readConfig p src tag target) := of_some rfl rfl

theorem readShadow (p : PortId) (src tag : Byte) (target : Byte) :
    Statement (.readShadow p src tag target) := of_some rfl rfl

theorem heartbeat (p : PortId) (src tag : Byte) :
    Statement (.heartbeat p src tag) := of_some rfl rfl

theorem subscribe (p : PortId) (src tag : Byte) (mask : Byte) :
    Statement (.subscribe p src tag mask) := of_some rfl rfl

theorem resync (p : PortId) (src tag : Byte) :
    Statement (.resync p src tag) := of_some rfl rfl

theorem assertLine (p : PortId) (src tag : Byte) (line : Byte) :
    Statement (.assertLine p src tag line) := of_some rfl rfl

theorem releaseLine (p : PortId) (src tag : Byte) (line : Byte) :
    Statement (.releaseLine p src tag line) := of_some rfl rfl

theorem claimLine (p : PortId) (src tag : Byte) (line : Byte) (duration : W16) :
    Statement (.claimLine p src tag line duration) := of_some rfl rfl

theorem renewLease (p : PortId) (src tag : Byte) (line : Byte) (duration : W16) :
    Statement (.renewLease p src tag line duration) := of_some rfl rfl

theorem relinquishLine (p : PortId) (src tag : Byte) (line : Byte) :
    Statement (.relinquishLine p src tag line) := of_some rfl rfl

theorem pulseLine (p : PortId) (src tag : Byte) (line : Byte) (duration : W16) :
    Statement (.pulseLine p src tag line duration) := of_some rfl rfl

theorem propose (p : PortId) (src tag : Byte) (kind index action : Byte) (argument : W16) :
    Statement (.propose p src tag kind index action argument) := of_some rfl rfl

theorem withdraw (p : PortId) (src tag : Byte) (id : Byte) :
    Statement (.withdraw p src tag id) := of_some rfl rfl

theorem openConfig (p : PortId) (src tag : Byte) :
    Statement (.openConfig p src tag) := of_some rfl rfl

theorem writeLineConfig (p : PortId) (src tag : Byte) (line select : Byte) (block : LineBlock) :
    Statement (.writeLineConfig p src tag line select block) := of_some rfl rfl

theorem writeGlobalConfig (p : PortId) (src tag : Byte) (select : Byte) (block : GlobalBlock) :
    Statement (.writeGlobalConfig p src tag select block) := of_some rfl rfl

theorem commitConfig (p : PortId) (src tag : Byte) :
    Statement (.commitConfig p src tag) := of_some rfl rfl

theorem closeConfig (p : PortId) (src tag : Byte) :
    Statement (.closeConfig p src tag) := of_some rfl rfl

theorem millisecondCountAdvance :
    Statement .millisecondCountAdvance := of_none rfl

end Sys2Proof.Laws.RequestLength
end

