-- ==== Sys2Proof/Laws/Proposals.lean ====
section
/-! SUPPORT. What the shared operations of the Proposal Table can do, said once: an entry opening, an entry leaving,
and what a LINE entry hands off. -/

namespace Sys2Proof.Machine

open Sys2Proof

variable (s : State)

/-- An entry opening, said whole (R23, R29 step 2, R50). -/
theorem openEntry_opens (e : Entry) : EntryOpens e s (openEntry e s) where
  frame := rfl
  status := fun m => raise_noticed _ _ m

/-- Raising PROPOSAL_ENDED for an entry that leaves the table, said whole (R51). -/
theorem dropEntry_ends (e : Entry) (out : EntryOutcome) :
    EntryEnds e out s
      (raise (.proposalEnded e.id e.subject e.action out e.voters) (s.dropEntry e.id)) where
  frame := rfl
  status := fun m => raise_noticed _ _ m

/-- An entry that is no APPLY entry leaves the table (R51). -/
theorem endEntry_ends (e : Entry) (out : EntryOutcome) (h : e.subject ≠ .config) :
    EntryEnds e out s (endEntry e out s) := by
  have hn : ¬(e.subject = .config ∧ (out = .expired ∨ out = .withdrawn)) := fun x => h x.1
  simp only [endEntry, hn, if_false]
  exact dropEntry_ends s e out

/-- An entry that neither expires nor is withdrawn leaves the table without an effect on the session (R51,
R118). -/
theorem endEntry_ends_of_outcome (e : Entry) (out : EntryOutcome) (h1 : out ≠ .expired)
    (h2 : out ≠ .withdrawn) : EntryEnds e out s (endEntry e out s) := by
  have hn : ¬(e.subject = .config ∧ (out = .expired ∨ out = .withdrawn)) := fun x =>
    x.2.elim h1 h2
  simp only [endEntry, hn, if_false]
  exact dropEntry_ends s e out

/-- An APPLY entry that expires or is withdrawn returns its session to EDITING (R118). -/
theorem endEntry_apply (e : Entry) (out : EntryOutcome) (h : e.subject = .config)
    (ho : out = .expired ∨ out = .withdrawn) :
    ∃ t, EntryEnds e out s t ∧ endEntry e out s = returnToEditing t := by
  refine ⟨_, dropEntry_ends s e out, ?_⟩
  simp only [endEntry, h, ho, and_self, if_true]

/-- The return of a session to EDITING writes the session alone (R118). -/
theorem returnToEditing_frame :
    returnToEditing s = { s with session := (returnToEditing s).session } := by
  unfold returnToEditing; split <;> rfl

/-- An entry that leaves the table writes the table, the session and the status records alone (R51, R118). -/
theorem endEntry_frame (e : Entry) (out : EntryOutcome) :
    endEntry e out s = { s with
      table := s.table.filter (fun x => x.id ≠ e.id),
      session := (endEntry e out s).session, status := (endEntry e out s).status } := by
  unfold endEntry
  dsimp only
  split
  · rw [returnToEditing_frame]; rfl
  · rfl

/-- A vote taken back writes the table, the session and the status records alone (R36, R46). -/
theorem takeVote_frame (m : MasterId) (e : Entry) :
    takeVote m e s = { s with
      table := (takeVote m e s).table, session := (takeVote m e s).session,
      status := (takeVote m e s).status } := by
  unfold takeVote
  dsimp only
  split
  · rw [endEntry_frame]
  · split <;> rfl

/-- Votes taken back write the table, the session and the status records alone (R46). -/
theorem removeVotes_frame (m : MasterId) :
    removeVotes m s = { s with
      table := (removeVotes m s).table, session := (removeVotes m s).session,
      status := (removeVotes m s).status } := by
  have h : ∀ (l : List Entry) (t : State), l.foldl (removeVote m) t =
      { t with table := (l.foldl (removeVote m) t).table,
               session := (l.foldl (removeVote m) t).session,
               status := (l.foldl (removeVote m) t).status } := by
    intro l
    induction l with
    | nil => intro t; rfl
    | cons e l ih =>
      intro t
      rw [List.foldl_cons, ih]
      unfold removeVote
      split
      · rw [takeVote_frame]
      · rfl
  exact h s.table s

/-- The hand-off of a LINE entry is one claim with cause PROPOSAL (R39). -/
theorem handOff_line (e : Entry) (n : LineId) (h : e.subject = .line n)
    (ha : pairing e.subject e.action = true) :
    handOff e s = lineClaim n .proposal (carriedLine s.count e) s := by
  obtain ⟨id, sub, act, dur, rev, op, vo, rq, dl, st⟩ := e
  subst h
  cases act <;> simp_all [pairing] <;> rfl

/-- Replacing an entry by itself with more votes keeps the table's ids. -/
theorem putEntry_ids (e : Entry) : (s.putEntry e).table.map (·.id) = s.table.map (·.id) := by
  simp only [State.putEntry, State.setTable, List.map_map]
  apply List.map_congr_left
  intro x _
  simp only [Function.comp]
  split <;> simp_all

/-- The next id after an id is never 0 (R23). -/
theorem nextIdAfter_ne_zero (id : Byte) : nextIdAfter id ≠ 0#8 := by
  unfold nextIdAfter
  split
  · decide
  · next h =>
    intro h0
    apply h
    have : id = 0#8 - 1#8 := by rw [← h0]; simp
    simpa using this

end Sys2Proof.Machine
end

