-- ==== Sys2Proof/Laws/Requests.lean ====
section
/-! SUPPORT. The three stages of a served request, each said once: the renewal, decode and dispatch, the response.
`requestEvent_taken` puts them together: to find what a request command does, give its decoding and what its
owning unit answers. -/

namespace Sys2Proof.Machine

open Sys2Proof

variable (s : State)

/-! ### Renewal -/

/-- The renewal of an accepted request, said whole (R87, R88). -/
theorem renew_renewed (p : PortId) (src : Byte) : Renewed p src s (renew p src s) where
  frame := by
    unfold renew; split <;> rfl
  requester := by
    unfold renew
    split
    · next h => simp [admitMaster, raiseMasterChanged, State.deadlineIn, State.master, raise, State.setMaster]
    · next h =>
      have hp : (s.master p).presence = .present := by
        cases hx : (s.master p).presence <;> simp_all
      simp only [State.setMaster_master_same, hp]; rfl
  others := by
    intro m hm
    unfold renew
    split
    · rw [State.setMaster_master_other _ _ _ _ hm]
      show (s.setMaster p _).master m = _
      rw [State.setMaster_master_other _ _ _ _ hm]
    · rw [State.setMaster_master_other _ _ _ _ hm]
  status := by
    intro m
    unfold renew
    split
    · next h =>
      rw [State.setMaster_stat]
      unfold admitMaster raiseMasterChanged
      rw [raise_noticed, State.setMaster_stat]
      simp only [State.setMaster_master_same]
      refine (noticed_congr ?_ m _ _).symm
      intro k
      by_cases hk : k = p
      · subst hk
        simp
      · rw [State.setMaster_master_other _ _ _ _ hk, State.setMaster_master_other _ _ _ _ hk]
        show ((s.setMaster p _).master k).presence = _
        rw [State.setMaster_master_other _ _ _ _ hk]
    · rfl

@[simp] theorem renew_line (p : PortId) (src : Byte) (n : LineId) :
    (renew p src s).line n = s.line n := by
  rw [(renew_renewed s p src).frame]; rfl

@[simp] theorem renew_driven (p : PortId) (src : Byte) (n : LineId) :
    (renew p src s).driven n = s.driven n := by
  rw [(renew_renewed s p src).frame]; rfl

@[simp] theorem renew_hold (p : PortId) (src : Byte) : (renew p src s).hold = s.hold := by
  rw [(renew_renewed s p src).frame]

@[simp] theorem renew_count (p : PortId) (src : Byte) : (renew p src s).count = s.count := by
  rw [(renew_renewed s p src).frame]

@[simp] theorem renew_linkAddress (p : PortId) (src : Byte) :
    (renew p src s).linkAddress = s.linkAddress := by
  rw [(renew_renewed s p src).frame]

@[simp] theorem renew_table (p : PortId) (src : Byte) : (renew p src s).table = s.table := by
  rw [(renew_renewed s p src).frame]

@[simp] theorem renew_nextId (p : PortId) (src : Byte) : (renew p src s).nextId = s.nextId := by
  rw [(renew_renewed s p src).frame]

@[simp] theorem renew_config (p : PortId) (src : Byte) : (renew p src s).config = s.config := by
  rw [(renew_renewed s p src).frame]

@[simp] theorem renew_generation (p : PortId) (src : Byte) :
    (renew p src s).generation = s.generation := by
  rw [(renew_renewed s p src).frame]

@[simp] theorem renew_session (p : PortId) (src : Byte) : (renew p src s).session = s.session := by
  rw [(renew_renewed s p src).frame]

@[simp] theorem renew_ports (p : PortId) (src : Byte) : (renew p src s).ports = s.ports := by
  rw [(renew_renewed s p src).frame]

@[simp] theorem renew_port (p k : PortId) (src : Byte) : (renew p src s).port k = s.port k := by
  show (renew p src s).ports.get k = _
  rw [renew_ports]; rfl

@[simp] theorem renew_quarantined (p : PortId) (src : Byte) (m : MasterId) :
    ((renew p src s).master m).quarantined = (s.master m).quarantined := by
  by_cases hm : m = p
  · subst hm; rw [(renew_renewed s m src).requester]
  · rw [(renew_renewed s p src).others m hm]

variable {s}

/-- A renewal leaves the lines. -/
theorem Renewed.line {p : PortId} {src : Byte} {t : State} (h : Renewed p src s t) (n : LineId) :
    t.line n = s.line n := by rw [h.frame]; rfl

/-- A renewal leaves the ports. -/
theorem Renewed.ports {p : PortId} {src : Byte} {t : State} (h : Renewed p src s t) :
    t.ports = s.ports := by rw [h.frame]

/-- A renewal keeps every quarantine mark (R88). -/
theorem Renewed.quarantined {p : PortId} {src : Byte} {t : State} (h : Renewed p src s t)
    (m : MasterId) : (t.master m).quarantined = (s.master m).quarantined := by
  by_cases hm : m = p
  · subst hm; rw [h.requester]
  · rw [h.others m hm]

variable (s)

/-! ### Response -/

/-- The response to one of the twenty-two requests, said whole (R142, R143). -/
theorem respond_answered (p : PortId) (src tag : Byte) (code : RequestCode) (params : List Byte)
    (a : Answer) (h : a.status ≠ .code) :
    Answered p src tag code params a s
      (respond p ⟨src, tag, code.byte, params, requestCheck s src tag code params⟩ a s) where
  frame := rfl
  others := by
    intro k hk
    exact State.updPort_port_other _ _ _ _ hk
  port := by
    unfold respond
    rw [State.updPort_port_same]
    simp only [Port.takeResponse, responsePacket, responseBytes, responseCode_byte _ _ h]
    split
    · next h2 =>
      have h2' : (s.port p).link = .off := h2
      simp [h2']
    · next h2 =>
      have h2' : ¬ (s.port p).link = .off := h2
      simp [Port.queueResponse]

/-! ### The whole event -/

/-- An idle assembly record that is set to idle is left as it was. -/
theorem setAssembly_idle (p : PortId) (h : (s.port p).assembly = ⟨.idle, []⟩) :
    s.setAssembly p ⟨.idle, []⟩ = s := by
  unfold State.setAssembly State.updPort State.setPort
  have e : ({ s.port p with assembly := ⟨.idle, []⟩ } : Port) = s.port p := by
    rw [← h]
  have e2 : s.ports.set p.val (s.port p) p.isLt = s.ports := by
    apply vector_ext_get
    intro i
    rw [get_set]; split
    · next hi => rw [hi]; rfl
    · rfl
  simp only [e, e2]

/-- A served request is renewed, executed and answered (R135). -/
theorem requestEvent_served (p : PortId) (src tag : Byte) (code : RequestCode) (params : List Byte)
    (h : Served p src tag code params s) :
    requestEvent p src tag code params s =
      (let q : RawRequest := ⟨src, tag, code.byte, params, requestCheck s src tag code params⟩
       let r := execute p ((s.master p).presence = .absent) q (renew p src s)
       respond p q r.2 r.1).setAssembly p ⟨.idle, []⟩ := by
  obtain ⟨⟨h1, h2, h3, h4⟩, hd⟩ := h
  have hs : (s.port p).slotFree = true := by simpa [Port.slotFree, Config.responseSlots] using h4
  have hi : (s.port p).assembly.state = .idle := by rw [h3]
  have hp : (renew p src s).port p = s.port p := by
    show (renew p src s).ports.get p = s.ports.get p
    rw [(renew_renewed s p src).ports]
  have hdup : ((renew p src s).port p).isDuplicate
      ⟨src, tag, code.byte, params, requestCheck s src tag code params⟩ = false := by
    rw [hp]
    unfold Port.isDuplicate
    by_contra hc
    apply hd
    simpa [and_assoc] using hc
  unfold requestEvent
  rw [if_pos ⟨h1, h2, hi⟩]
  unfold completePacket
  rw [if_pos hs, processPacket_requestPacket]
  unfold acceptRequest
  have hq : crc8 ([s.linkAddress, src, tag, code.byte] ++ params) = requestCheck s src tag code params :=
    rfl
  simp only [hq, hdup]
  rfl

/-- What a request command does, from its decoding and its owning unit's answer: `t` is the state after the
unit's claim, which leaves the assembly record and the link address as they were. -/
theorem requestEvent_taken (p : PortId) (src tag : Byte) (code : RequestCode) (params : List Byte)
    (q : Request) (t : State) (a : Answer) (effect : State → State → Prop)
    (ans : State → State → Answer) (h : Served p src tag code params s)
    (hl : params.length = code.paramLength) (hq : decodeFields code params = .ok q)
    (ht : dispatch p ((s.master p).presence = .absent) q (renew p src s) = (t, a))
    (ha : a.status ≠ .code) (hp : (t.port p).assembly = ⟨.idle, []⟩)
    (hc : t.linkAddress = s.linkAddress) (he : effect (renew p src s) t)
    (hans : ans (renew p src s) t = a) :
    RequestTaken p src tag code params effect ans s (requestEvent p src tag code params s) := by
  refine ⟨renew p src s, t, renew_renewed s p src, he, ?_⟩
  rw [requestEvent_served s p src tag code params h]
  simp only [execute, decodeRequest_of_length code params hl, hq, ht]
  have hck : requestCheck s src tag code params = requestCheck t src tag code params := by
    simp [requestCheck, hc]
  rw [hans, hck]
  have hb : ((respond p ⟨src, tag, code.byte, params, requestCheck t src tag code params⟩ a t).port
      p).assembly = ⟨.idle, []⟩ := by
    rw [(respond_answered t p src tag code params a ha).port]; exact hp
  rw [setAssembly_idle _ _ hb]
  exact respond_answered t p src tag code params a ha

/-- What a request command does when its owning unit's claim leaves the ports. -/
theorem requestEvent_taken_of_ports (p : PortId) (src tag : Byte) (code : RequestCode)
    (params : List Byte) (q : Request) (t : State) (a : Answer) (effect : State → State → Prop)
    (ans : State → State → Answer) (h : Served p src tag code params s)
    (hl : params.length = code.paramLength) (hq : decodeFields code params = .ok q)
    (ht : dispatch p ((s.master p).presence = .absent) q (renew p src s) = (t, a))
    (ha : a.status ≠ .code) (hp : t.ports = s.ports) (hc : t.linkAddress = s.linkAddress)
    (he : effect (renew p src s) t) (hans : ans (renew p src s) t = a) :
    RequestTaken p src tag code params effect ans s (requestEvent p src tag code params s) := by
  refine requestEvent_taken s p src tag code params q t a effect ans h hl hq ht ha ?_ hc he hans
  show (t.ports.get p).assembly = _
  rw [hp]; exact h.1.idle

/-- What a request refused by its owning unit does (R151): the unit's claim leaves the state as it was. -/
theorem requestEvent_refused (p : PortId) (src tag : Byte) (code : RequestCode)
    (params : List Byte) (q : Request) (st : Status) (res : State → List Byte)
    (h : Served p src tag code params s) (hl : params.length = code.paramLength)
    (hq : decodeFields code params = .ok q)
    (ht : dispatch p ((s.master p).presence = .absent) q (renew p src s) =
      (renew p src s, ⟨st, res (renew p src s)⟩)) (ha : st ≠ .code) :
    RequestRefused p src tag code params st res s (requestEvent p src tag code params s) :=
  requestEvent_taken_of_ports s p src tag code params q _ _ NoEffect _ h hl hq ht ha
    (renew_ports s p src) (renew_linkAddress s p src) rfl rfl

/-- What a request refused at decode does (R140). -/
theorem requestEvent_refused_at_decode (p : PortId) (src tag : Byte) (code : RequestCode)
    (params : List Byte) (st : Status) (h : Served p src tag code params s)
    (hl : params.length = code.paramLength) (hq : decodeFields code params = .error st)
    (ha : st ≠ .code) :
    RequestRefused p src tag code params st (fun _ => []) s
      (requestEvent p src tag code params s) := by
  refine ⟨renew p src s, renew p src s, renew_renewed s p src, rfl, ?_⟩
  rw [requestEvent_served s p src tag code params h]
  simp only [execute, decodeRequest_of_length code params hl, hq, refuse]
  have hck : requestCheck s src tag code params = requestCheck (renew p src s) src tag code params := by
    simp [requestCheck]
  have hp : ((renew p src s).port p).assembly = ⟨.idle, []⟩ := by
    show ((renew p src s).ports.get p).assembly = _
    rw [(renew_renewed s p src).ports]; exact h.1.idle
  rw [hck]
  have hb : ((respond p ⟨src, tag, code.byte, params,
      requestCheck (renew p src s) src tag code params⟩ ⟨st, []⟩ (renew p src s)).port p).assembly =
        ⟨.idle, []⟩ := by
    rw [(respond_answered _ p src tag code params ⟨st, []⟩ ha).port]; exact hp
  rw [setAssembly_idle _ _ hb]
  exact respond_answered _ p src tag code params ⟨st, []⟩ ha

end Sys2Proof.Machine
end

