-- ==== Sys2Proof/Laws/Votes.lean ====
section
/-! SUPPORT. PROPOSE step by step: its decoding, its checks, what a vote and the counting of votes can answer. -/

namespace Sys2Proof.Machine

open Sys2Proof

variable (s : State)

/-! ### Decoding -/

/-- A subject is found by its kind and index (R22). -/
theorem subjectOf_kindByte (index : Byte) (sub : Subject) (h : indexSpells index sub) :
    subjectOf sub.kindByte index = some sub := by
  cases sub <;> simp_all [indexSpells, subjectOf, Subject.kindByte]

/-- The index byte of a summary spells its subject (R22, R52). -/
theorem indexSpells_indexByte (sub : Subject) : indexSpells sub.indexByte sub := by
  cases sub <;> simp [indexSpells, Subject.indexByte]

/-- An action is found by its byte among the pairings of its subject (R22). -/
theorem actionOf_byte (sub : Subject) (act : Action) (h : pairing sub act = true) :
    actionOf sub act.byte = some act := by
  cases sub <;> cases act <;> simp_all [pairing, actionOf, Action.byte]

/-- The parameters of a PROPOSE decode to it (R140). -/
theorem decodeFields_proposalParams (index : Byte) (sub : Subject) (act : Action) (arg : W16)
    (h : pairing sub act = true) (hi : indexSpells index sub) :
    decodeFields .propose (proposalParams sub index act arg) = .ok (.propose sub act arg) := by
  show decodeFields .propose [_, _, _, _, _] = _
  rw [decodeFields_propose]
  simp [decodePropose, subjectOf_kindByte _ _ hi, actionOf_byte _ _ h]

/-! ### Checks -/

/-- A valid proposal passes the checks of R26. -/
theorem checkLineProposal_valid (p : MasterId) (act : Action) (arg : W16) (n : LineId)
    (h : proposalValid s p act arg (.line n)) : checkLineProposal s n act arg = none := by
  obtain ⟨h1, h2⟩ := h
  unfold checkLineProposal pulseDurationOk
  by_cases ha : act = .pulse
  · have h3 := h2 ha
    have hm : (s.line n).cfg.pulseMax ≠ 0#16 := by
      intro h0; rw [h0] at h3; simp at h3; omega
    simp_all
  · simp_all

/-- A valid proposal passes the checks of R27. -/
theorem checkMasterProposal_valid (p : MasterId) (act : Action) (arg : W16) (k : MasterId)
    (h : proposalValid s p act arg (.master k)) : checkMasterProposal s p k act = none := by
  obtain ⟨h1, h2⟩ := h
  unfold checkMasterProposal
  cases act <;> simp_all

/-- A valid proposal of an unquarantined master goes to the table (R25 to R29). -/
theorem reqPropose_valid (p : MasterId) (act : Action) (arg : W16) (sub : Subject)
    (hq : (s.master p).quarantined = false) (h : proposalValid s p act arg sub) :
    reqPropose p sub act arg s = proposeToTable p sub act arg s := by
  cases sub with
  | line n => simp only [reqPropose, hq, checkLineProposal_valid s p act arg n h]; rfl
  | master n => simp only [reqPropose, hq, checkMasterProposal_valid s p act arg n h]; rfl
  | config => exact h.elim
  | part => simp [reqPropose, hq]

/-- A renewal leaves what the checks of a proposal read. -/
theorem proposalValid_renew (p k : PortId) (src : Byte) (act : Action) (arg : W16) (sub : Subject) :
    proposalValid (renew k src s) p act arg sub ↔ proposalValid s p act arg sub := by
  cases sub <;> simp [proposalValid]

@[simp] theorem renew_entryOn (k : PortId) (src : Byte) (sub : Subject) :
    (renew k src s).entryOn sub = s.entryOn sub := by simp [State.entryOn]

@[simp] theorem renew_entryById (k : PortId) (src : Byte) (id : Byte) :
    (renew k src s).entryById id = s.entryById id := by simp [State.entryById]

@[simp] theorem renew_freeId (k : PortId) (src : Byte) : (renew k src s).freeId = s.freeId := by
  simp [State.freeId]

@[simp] theorem renew_tableFull (k : PortId) (src : Byte) :
    (renew k src s).tableFull = s.tableFull := by simp [State.tableFull]

@[simp] theorem renew_held (k : PortId) (src : Byte) : (renew k src s).held = s.held := by
  simp [State.held]

/-! ### A fresh entry -/

/-- The entry that a PROPOSE opens (R29). -/
theorem newEntry_fresh (p : MasterId) (sub : Subject) (act : Action) (arg : W16) :
    s.newEntry p sub act (keptDuration act arg) none = freshEntry s s.freeId p sub act arg := by
  unfold State.newEntry freshEntry keptDuration State.requiredFor; rfl

/-- A renewal leaves the required count of a subject (R24). -/
theorem freshEntry_required_renew (p k : PortId) (src id : Byte) (sub : Subject) (act : Action)
    (arg : W16) : (freshEntry (renew k src s) id p sub act arg).required =
      (freshEntry s id p sub act arg).required := by
  unfold freshEntry; cases sub <;> simp

/-- A set of one master counts 1 (R20). -/
@[simp] theorem masterCount_onlyBit (m : MasterId) : masterCount (onlyBit m.val) = 1 := by
  revert m; decide

/-! ### Counting votes (R30, R31, R43) -/

/-- A vote for a READY entry answers READY (R31). -/
theorem countVotes_ready (e : Entry) (h : e.state = .ready) : countVotes e s = (s, .ready) := by
  simp [countVotes, h]

/-- A count below the required count answers VOTED (R30). -/
theorem countVotes_voted (e : Entry) (h : e.state = .voting) (hc : e.count < e.required.toNat) :
    countVotes e s = (s, .voted) := by
  simp [countVotes, h, hc]

/-- An activating entry that reaches its count under HOLD becomes READY (R43). -/
theorem countVotes_held (e : Entry) (h : e.state = .voting) (hc : e.required.toNat ≤ e.count)
    (hh : s.held = true) (ha : e.activates = true) :
    countVotes e s = (s.putEntry { e with state := .ready }, .ready) := by
  have hn : ¬e.count < e.required.toNat := by omega
  simp [countVotes, h, hn, hh, ha]

/-- An entry that reaches its count, and that HOLD does not keep waiting, is carried (R30, R38). -/
theorem countVotes_carried (e : Entry) (h : e.state = .voting) (hc : e.required.toNat ≤ e.count)
    (hh : s.held = false ∨ e.activates = false) : countVotes e s = (carry e s, .carried) := by
  have hn : ¬e.count < e.required.toNat := by omega
  rcases hh with hh | hh <;> simp [countVotes, h, hn, hh]

/-- A first vote of a master for an entry: the count decides (R30). -/
theorem proposeVote_new (p : MasterId) (e : Entry) (h : hasBit e.voters p.val = false) :
    proposeVote p e s =
      ((countVotes (withVote p e) (s.putEntry (withVote p e))).1,
        ⟨(countVotes (withVote p e) (s.putEntry (withVote p e))).2, voteResult (withVote p e)⟩) := by
  simp only [proposeVote, h]; rfl

/-- A PROPOSE that votes for an entry reaches `proposeVote` (R28, R30). -/
theorem reqPropose_votes {p : MasterId} {sub : Subject} {act : Action} {arg : W16} {e : Entry}
    (src : Byte) (h : VotesFor s p sub act arg e) :
    reqPropose p sub act arg (renew p src s) = proposeVote p e (renew p src s) := by
  have hsame : e.sameProposal act arg = true := by
    have hd := h.same
    unfold differs at hd
    simp only [not_or, not_and_or, Decidable.not_not] at hd
    unfold Entry.sameProposal
    rcases hd with ⟨ha, hd⟩
    rcases hd with hd | hd <;> simp [ha, hd]
  by_cases hc : sub = .config
  · subst hc
    simp only [reqPropose, renew_quarantined, h.unquarantined, proposeConfig, renew_entryOn, h.found,
      h.revision rfl, hsame]
    simp
  · rw [reqPropose_valid _ _ _ _ _ (by simpa using h.unquarantined)
      ((proposalValid_renew _ _ _ _ _ _ _).2 (h.valid hc))]
    simp only [proposeToTable, renew_entryOn, h.found, hsame, if_true]

/-- A vote as one event: from the counting of the votes on the renewed state to the whole request. -/
theorem vote_taken (p : PortId) (src tag index : Byte) (sub : Subject) (act : Action) (arg : W16)
    (e : Entry) (t : State) (st : Status) (effect : State → State → Prop)
    (h1 : pairing sub act = true) (h2 : indexSpells index sub)
    (hs : Served p src tag .propose (proposalParams sub index act arg) s)
    (hv : VotesFor s p sub act arg e) (hn : hasBit e.voters p.val = false)
    (hc : countVotes (withVote p e) ((renew p src s).putEntry (withVote p e)) = (t, st))
    (ha : st ≠ .code) (hp : (t.port p).assembly = ⟨.idle, []⟩) (hl : t.linkAddress = s.linkAddress)
    (he : effect (renew p src s) t) :
    RequestTaken p src tag .propose (proposalParams sub index act arg) effect
      (fun _ _ => ⟨st, [e.id, byteOf (withVote p e).count, e.required]⟩) s
      (requestEvent p src tag .propose (proposalParams sub index act arg) s) := by
  refine requestEvent_taken s p src tag .propose _ (.propose sub act arg) t _ effect _ hs rfl
    (decodeFields_proposalParams _ _ _ _ h1 h2) ?_ ha hp hl he rfl
  simp only [dispatch]
  rw [reqPropose_votes s src hv, proposeVote_new _ _ _ hn, hc]
  rfl

/-- The entry a renewed state opens is the one the state opens: it reads the count and the configuration. -/
theorem freshEntry_renew (p k : PortId) (src id : Byte) (sub : Subject) (act : Action) (arg : W16) :
    freshEntry (renew k src s) id p sub act arg = freshEntry s id p sub act arg := by
  unfold freshEntry; simp

/-- A proposal that an entry differs from is not the same proposal (R30, R33). -/
theorem sameProposal_of_differs {e : Entry} {act : Action} {arg : W16} (h : differs e act arg) :
    e.sameProposal act arg = false := by
  unfold differs at h
  unfold Entry.sameProposal
  rcases h with h | ⟨ha, h⟩ <;> simp_all

/-- An entry that gives way to a new one changes the table, the next-id counter and the status records alone
(R32). -/
theorem supersede_frame (r : State) (e e' : Entry) (h : e.subject ≠ .config) :
    openEntry e' (endEntry e .superseded r) = { r with
      table := (openEntry e' (endEntry e .superseded r)).table,
      nextId := (openEntry e' (endEntry e .superseded r)).nextId,
      status := (openEntry e' (endEntry e .superseded r)).status } := by
  rw [show endEntry e .superseded r =
    raise (.proposalEnded e.id e.subject e.action .superseded e.voters) (r.dropEntry e.id) by simp [endEntry, h]]
  rfl

/-- The entry that supersedes takes an id free of the table without the old one (R23, R32). -/
theorem supersede_fresh (r : State) (e : Entry) (h : e.subject ≠ .config) (id : Byte) (p : MasterId)
    (sub : Subject) (act : Action) (arg : W16)
    (hi : ({ r with table := r.table.filter fun x => x.id ≠ e.id } : State).freeId = id) :
    (endEntry e .superseded r).freeId = id ∧
      freshEntry (endEntry e .superseded r) id p sub act arg = freshEntry r id p sub act arg := by
  rw [show endEntry e .superseded r =
    raise (.proposalEnded e.id e.subject e.action .superseded e.voters) (r.dropEntry e.id) by simp [endEntry, h]]
  exact ⟨hi, rfl⟩

/-- A PROPOSE that brings an entry to its count reaches the counting of its votes, in a state that differs from the
renewed one in the table, the next-id counter and the status records alone (R29, R30, R32). -/
theorem propose_reached {p : MasterId} {sub : Subject} {act : Action} {arg : W16} {e : Entry}
    {reached : State → State → Prop} (src : Byte) (h : CountReached s p sub act arg e reached) :
    ∃ x, reached (renew p src s) x ∧
      x = { renew p src s with table := x.table, nextId := x.nextId, status := x.status } ∧
      e.state = .voting ∧ e.required.toNat ≤ e.count ∧
      reqPropose p sub act arg (renew p src s) =
        ((countVotes e x).1, ⟨(countVotes e x).2, voteResult e⟩) := by
  cases h with
  | vote e hv hb hs hc =>
    refine ⟨_, rfl, rfl, hs, hc, ?_⟩
    rw [reqPropose_votes s src hv, proposeVote_new _ _ _ hb]
    rfl
  | opened hq hv hn hl hc =>
    refine ⟨_, openEntry_opens _ _, rfl, rfl, ?_, ?_⟩
    · rw [show (freshEntry s s.freeId p sub act arg).count = 1 from masterCount_onlyBit p]; exact hc
    · have hf : (renew p src s).tableFull = false := by
        rw [renew_tableFull]
        exact decide_eq_false (Nat.not_le.mpr hl)
      rw [reqPropose_valid _ _ _ _ _ (by simpa using hq) ((proposalValid_renew _ _ _ _ _ _ _).2 hv)]
      simp only [proposeToTable, renew_entryOn, hn, proposeFresh, hf, openAndCount, newEntry_fresh, renew_freeId,
        freshEntry_renew]
      rfl
  | superseded e0 n id hq hv hl he hd ho hi hc =>
    subst hl
    have hsub : e0.subject = .line n := by simpa using List.find?_some he
    have hc0 : e0.subject ≠ .config := by rw [hsub]; nofun
    refine ⟨_, ⟨_, endEntry_ends _ e0 .superseded hc0, openEntry_opens _ _⟩,
      supersede_frame _ _ _ hc0, rfl, ?_, ?_⟩
    · rw [show (freshEntry s id p (.line n) act arg).count = 1 from masterCount_onlyBit p]; exact hc
    · obtain ⟨hid, hfresh⟩ := supersede_fresh (renew p src s) e0 hc0 id p (.line n) act arg
        (by rw [hi]; simp [State.freeId])
      rw [freshEntry_renew] at hfresh
      rw [reqPropose_valid _ _ _ _ _ (by simpa using hq) ((proposalValid_renew _ _ _ _ _ _ _).2 hv)]
      simp only [proposeToTable, renew_entryOn, he, sameProposal_of_differs hd, proposeOther, ho, if_true, hsub,
        openAndCount, newEntry_fresh, hid, hfresh]
      rfl

end Sys2Proof.Machine
end

