-- ==== Sys2Proof/WellFormed.lean ====
section
/-! DEFINITION. Which commands name something that can exist. The types of the operands bound lines, masters
and ports; a request command carries raw packet fields, and a value outside its set is no ill-formed command:
the part answers it (R140, R195). What is left to check is an entry's id. -/

namespace Sys2Proof

/-- Ids are 1 to 255; id 0 is not assigned (R20, R23), so no ENTRY_DEADLINE can be one of entry 0. -/
def Instr.wellFormed : Instr → Bool
  | .entryDeadline id => id != 0#8
  | _ => true

end Sys2Proof
end

