-- ==== Sys2Proof/Tests/Slice0.lean ====
section
/-! SUPPORT. Tests of single commands against the spec, and a witness for the hypotheses of every obligation. Every
expected value comes from the spec: the worked sequences of chapter 11 where a test names one, else the rule a
test names, with the encodings of chapter 10. -/

namespace Sys2Proof.Tests

open Sys2Proof Sys2Proof.Machine

set_option maxRecDepth 100000

/-! ### Building states -/

/-- The state after a command, and the state itself where the command stops. -/
def ran (c : Instr) (s : State) : State :=
  match exec c s with
  | .next t => t
  | _ => s

/-- Status and result of the last response queued on port p. -/
def answer (p : PortId) (s : State) : List Byte :=
  (((s.port p).responses.getLastD []).drop 4).dropLast

/-- The line configuration of the strap sets with another policy. -/
def cfgOf (pol : Policy) : LineConfig := { defaultLineConfig .low with policy := pol }

/-- A part with every master PRESENT and every line of one policy with quorum 2; nothing else is set. -/
def part (pol : Policy) : State :=
  { State.reset with
    lines := Vector.replicate 16 (resetLine (cfgOf pol))
    config := ⟨Vector.replicate 16 (cfgOf pol), defaultGlobals⟩
    masters := Vector.replicate 4 ⟨.present, some ⟨0#32, 1000#16⟩, false, some 0x21#8⟩ }

/-- The part with L6 leased to M1 until 8000 and commanded ACTIVE. -/
def owned : State :=
  (part .leased).updLine 6 fun l =>
    { l with owner := some 1, lease := some ⟨0#32, 8000#16⟩, commanded := .active }

/-- An entry opened by M0 with its vote alone, 1 of 2, at count 0. -/
def entryOf (id : Byte) (sub : Subject) (act : Action) : Entry where
  id := id
  subject := sub
  action := act
  duration := none
  revision := none
  opener := 0
  voters := 1#4
  required := 2#8
  deadline := ⟨0#32, 5000#16⟩
  state := .voting

/-- A PULSE entry of 600 ms on L1, as chapter 11.1 opens it. -/
def pulseEntry : Entry := { entryOf 4#8 (.line 1) .pulse with duration := some 600#16 }

/-- The part with a table of entries. -/
def withTable (t : List Entry) (s : State) : State := { s with table := t, nextId := 20#8 }

/-- The part with the HOLD level asserted, raw and qualified. -/
def heldPart (s : State) : State := { s with hold := ⟨.high, .asserted, none⟩ }

/-- M0's session in EDITING at a revision, on a copy of the current configuration. -/
def editing (rev : W16) (s : State) : State :=
  s.setSession (.editing 0 s.config rev ⟨0#32, 10000#16⟩)

/-- The APPLY entry of M0 at revision 1. -/
def applyEntry : Entry := { entryOf 20#8 .config .apply with revision := some 1#16 }

/-- M0's session in VOTING at revision 1 with its APPLY entry. -/
def votingPart : State :=
  withTable [applyEntry] ((part .quorum).setSession (.voting 0 (part .shared).config 1#16))

/-- A port in UP with a grant outstanding and credit. -/
def upPort : Port :=
  { silentPort with link := .up, outstanding := 32, credit := 16, disconnect := some 1500 }

/-- The part with port P0 set to a record. -/
def linked (p : Port) : State := (part .quorum).setPort 0 p

/-- Port P0 in UP with an assembly record. -/
def gatheringPart (a : Assembly) : State := linked { upPort with assembly := a }

/-- Seven bytes that stand for a packet in transmission. -/
def sevenBytes : List Byte := [1#8, 2#8, 3#8, 4#8, 5#8, 6#8, 7#8]

/-! ### Well-formedness -/

/-- R20, R23: id 0 is not assigned, so no entry 0 has a deadline. -/
theorem test_wellFormed_refuses_entry_zero : (Instr.entryDeadline 0#8).wellFormed = false := by decide

/-- R23: ids 1 and 255 are assigned. -/
theorem test_wellFormed_takes_ids :
    (Instr.entryDeadline 1#8).wellFormed = true ∧ (Instr.entryDeadline 255#8).wellFormed = true := by
  decide

/-- The table gives no row bits, so no word spells a command. -/
theorem test_no_word_spells_a_command : decodeTableWord 16 0x1040 = none := by decide

/-- An empty queue idles (log entry 10); a queued command is run. -/
theorem test_step_idles : step State.reset = .next State.reset := rfl

theorem test_step_runs_the_front :
    (match step { State.reset with pending := [.millisecondCountAdvance, .idleDeadline] } with
      | .next t => (t.count, t.pending)
      | _ => (0#32, [])) = (1#32, [.idleDeadline]) := by decide

/-! ### Pins, resets, the time base -/

/-- R107, R172: CFGSEL high gives SHARED lines, address 0xFF leaves every port OFF. -/
theorem test_rstnReleased_open_without_address :
    (let t := ran (.rstnReleased .high 0xFF#8 .low 0#16) State.reset;
      ((t.line 15).cfg.policy, (t.port 3).link, (t.port 3).holdoff)) = (.shared, .off, none) := by decide

/-- R12: a HOLD input high at the release is taken as asserted. -/
theorem test_rstnReleased_samples_hold :
    (ran (.rstnReleased .low 0x40#8 .high 0#16) State.reset).hold.qualified = .asserted := by decide

/-- R18: the outputs are LOW while RSTN is asserted, whatever the safe level. -/
theorem test_rstnAsserted_outputs_low :
    (ran .rstnAsserted ((part .quorum).updLine 2 fun l => { l with cfg := { l.cfg with safe := .high } })).pinLevel
      2 = .low := by decide

/-- R1: 4294967295 is followed by 0. -/
theorem test_count_wraps :
    (ran .millisecondCountAdvance { State.reset with count := 4294967295#32 }).count = 0#32 := by decide

/-- R11: a raw change starts the 1 ms measurement. -/
theorem test_holdInputChange_measures :
    (ran (.holdInputChange .high) State.reset).hold = ⟨.high, .released, some 1000⟩ := by decide

/-- Chapter 11.1 at 500: HOLD asserted cancels the pulse, drives L1 safe and sets HOLD_SEEN. -/
theorem test_holdAsserted_cancels_pulse :
    (let s := { (part .quorum).updLine 1 (Line.startPulse 200#32 600#16) with
        hold := ⟨.high, .released, some 1000⟩ }
      let t := ran .holdAsserted s;
      (t.line 1).commanded = .released ∧ (t.line 1).pulse = none ∧ t.driven 1 = .low ∧
        hasFlag (t.stat 3).flags .holdSeen = true) := by decide

/-- Chapter 11.1 at 2000: the release of HOLD carries the READY pulse, which counts from the carrying. -/
theorem test_holdReleased_carries_ready :
    (let s := { withTable [{ pulseEntry with voters := 6#4, state := .ready }] (part .quorum) with
        count := 2000#32, hold := ⟨.low, .asserted, some 1000⟩ }
      let t := ran .holdReleased s;
      (t.line 1).commanded = .active ∧ (t.line 1).pulse = some ⟨2000#32, 600#16⟩ ∧ t.table = []) := by decide

/-- R79: a change in OFF moves the input alone. -/
theorem test_feedbackInputChange_off :
    ran (.feedbackInputChange 3 .high) (part .quorum) =
      { part .quorum with fbk := (part .quorum).fbk.set 3 .high } := by decide

/-! ### Deadlines -/

/-- Chapter 11.1 at 2600: the pulse deadline releases L1. -/
theorem test_pulseDeadline_releases :
    (let s := { (part .quorum).updLine 1 (Line.startPulse 2000#32 600#16) with count := 2600#32 };
      ((ran (.pulseDeadline 1) s).line 1).commanded) = .released := by decide

/-- R67: a lease deadline one millisecond away is not reached. -/
theorem test_leaseDeadline_not_reached :
    ran (.leaseDeadline 6) { owned with count := 7999#32 } = { owned with count := 7999#32 } := by decide

/-- R67, R66: at 8000 the lease ends and LEASE_LOST is set for the former owner. -/
theorem test_leaseDeadline_ends_lease :
    (let t := ran (.leaseDeadline 6) { owned with count := 8000#32 };
      ((t.line 6).owner, (t.line 6).commanded, hasFlag (t.stat 1).flags .leaseLost)) =
      (none, .released, true) := by decide

/-- R78: settling ends in MISMATCH when the input differs from the driven level. -/
theorem test_settleDeadline_mismatch :
    (let s := { ((part .quorum).updLine 2 fun l =>
        { l with cfg := { l.cfg with feedback := true }, feedback := .settling, settle := some ⟨0#32, 20#16⟩ }) with
        count := 20#32, fbk := Vector.replicate 16 .high };
      ((ran (.settleDeadline 2) s).line 2).feedback) = .mismatch := by decide

/-- Chapter 11.2 at 1000: absence ends the lease on L6 and empties the mask and the queue with NOTICE_LOST. -/
theorem test_presenceDeadline_absence :
    (let s := { owned.setStat 1 ⟨0#11, 1#6, [.lineChanged 9 .high .active .direct], 0#8⟩ with count := 1000#32 }
      let t := ran (.presenceDeadline 1) s;
      ((t.master 1).presence, (t.line 6).owner, (t.stat 1).queue, hasFlag (t.stat 1).flags .noticeLost,
        hasFlag (t.stat 1).flags .leaseLost)) = (.absent, none, [], true, true) := by decide

/-- Chapter 11.3 at 4500: the APPLY entry expires and the session returns to EDITING, revision 1. -/
theorem test_entryDeadline_returns_session :
    (let t := ran (.entryDeadline 20#8) { votingPart with count := 5000#32 };
      (t.table, match t.session with
        | .editing o _ rev d => some (o, rev, d)
        | _ => none)) = ([], some (0, 1#16, ⟨5000#32, 10000#16⟩)) := by decide

/-- R125: the idle deadline ends the session. -/
theorem test_idleDeadline_ends_session :
    (ran .idleDeadline { editing 3#16 (part .quorum) with count := 10000#32 }).session = .none := by decide

/-! ### Links -/

/-- R173: QUIET goes to LISTEN. -/
theorem test_holdoffDeadline : ((ran (.holdoffDeadline 2) State.reset).port 2).link = .listen := by decide

/-- R175: no GRANT within the handshake time takes the port back to QUIET. -/
theorem test_handshakeTimeout :
    ((ran (.handshakeTimeout 0) (linked { upPort with link := .handshake, credit := 0, handshake := some 250000 })).port
      0).link = .quiet := by decide

/-- R178, R180: a disconnect in UP sets LINK_ERROR. -/
theorem test_disconnectDeadline :
    (let t := ran (.disconnectDeadline 0) (linked upPort);
      ((t.port 0).link, hasFlag (t.stat 0).flags .linkError)) = (.quiet, true) := by decide

/-- R131: the 25th byte makes the record overlong. -/
theorem test_receiveData_overlong :
    ((ran (.receiveData 0 7#8) (gatheringPart ⟨.gathering, List.replicate 24 1#8⟩)).port 0).assembly.state =
      .overlong := by decide

/-- R131: a first byte is gathered, and takes one place of the grant (R177). -/
theorem test_receiveData_first :
    (let t := ran (.receiveData 0 7#8) (linked upPort);
      ((t.port 0).assembly, (t.port 0).outstanding)) = (⟨.gathering, [7#8]⟩, 31) := by decide

/-- R192: the HEARTBEAT packet 40 21 05 10 is closed by the check byte 82; its END brings DONE, admitted no. -/
theorem test_receiveEnd_heartbeat :
    (let s := gatheringPart ⟨.gathering, [0x40#8, 0x21#8, 0x05#8, 0x10#8, 0x82#8]⟩;
      ((ran (.receiveEnd 0) s).port 0).responses.map fun r => r.take 9) =
      [[0x21#8, 0x40#8, 0x05#8, 0x90#8, 0#8, 0#8, 0#8, 0x03#8, 0xE8#8]] := by decide

/-- R132: fewer than five bytes are MALFORMED. -/
theorem test_receiveEnd_short :
    hasFlag ((ran (.receiveEnd 0) (gatheringPart ⟨.gathering, [1#8, 2#8, 3#8, 4#8]⟩)).stat 0).flags .malformed =
      true := by decide

/-- R131: FAIL discards a gathered packet with TRUNCATED. -/
theorem test_receiveFail :
    (let t := ran (.receiveFail 0) (gatheringPart ⟨.gathering, [1#8]⟩);
      ((t.port 0).assembly, hasFlag (t.stat 0).flags .truncated)) = (⟨.idle, []⟩, true) := by decide

/-- R176: the first GRANT brings the link UP with credit 8. -/
theorem test_receiveGrant_up :
    (let t := ran (.receiveGrant 0) (linked { upPort with link := .handshake, credit := 0 });
      ((t.port 0).link, (t.port 0).credit)) = (.up, 8) := by decide

/-- R177, R184: a GRANT at credit 57 is a credit error. -/
theorem test_receiveGrant_too_many :
    ((ran (.receiveGrant 0) (linked { upPort with credit := 57 })).port 0).link = .quiet := by decide

/-- R175: IDLE takes LISTEN to HANDSHAKE. -/
theorem test_receiveIdle :
    ((ran (.receiveIdle 0) (linked { silentPort with link := .listen })).port 0).link = .handshake := by decide

/-- Chapter 11.4: a parity error during a notice sets LINK_ERROR and NOTICE_LOST. -/
theorem test_parityError_during_notice :
    (let t := ran (.parityError 0) (linked { upPort with tx := some (.notice sevenBytes 4) });
      (hasFlag (t.stat 0).flags .linkError, hasFlag (t.stat 0).flags .noticeLost)) = (true, true) := by decide

/-- R181, R179: a waiting READ_STATUS is processed before the buffer is trimmed, so it reports RESTARTED (bit 0) and
LINK_ERROR (bit 2), and the TRUNCATED of the trim stays set after it. -/
theorem test_parityError_waiting_readStatus :
    (let t := ran (.parityError 0) (linked { upPort with
        outstanding := 31, rx := [.data 1#8], responses := [sevenBytes, sevenBytes],
        assembly := ⟨.waiting, requestBytes (part .quorum) 0x21#8 1#8 .readStatus []⟩ });
      ((answer 0 t).drop 9, (t.port 0).link, (t.port 0).rx, (t.port 0).responses.length, (t.stat 0).flags)) =
      ([0#8, 5#8], .quiet, [], 1, onlyBit (flagBit .truncated)) := by decide

/-- R183: an owed GRANT goes first. -/
theorem test_transmit_grant :
    ((ran (.transmitCharacter 0) (linked { upPort with outstanding := 24 })).port 0).wire = some .grant := by decide

/-- Chapter 11.4: the notice that begins leaves the queue and takes number 17; the counter moves to 18. -/
theorem test_transmit_begins_notice :
    (let t := ran (.transmitCharacter 0)
        ((linked upPort).setStat 0 ⟨0#11, 1#6, [.lineChanged 2 .high .active .direct], 17#8⟩);
      ((t.port 0).wire, (t.stat 0).queue, (t.stat 0).seq)) = (some (.data 0x21#8), [], 18#8) := by decide

/-- R187, R146: the END of a response frees its slot. -/
theorem test_packetEndSent :
    (let t := ran (.packetEndSent 0) (linked { upPort with tx := some (.response 7), responses := [sevenBytes] });
      ((t.port 0).wire, (t.port 0).responses)) = (some .endChar, []) := by decide

/-- R147: a waiting packet is processed once a slot is free. -/
theorem test_processWaitingPacket :
    (let t := ran (.processWaitingPacket 0)
        (gatheringPart ⟨.waiting, [0x40#8, 0x21#8, 0x05#8, 0x10#8, 0x82#8]⟩);
      ((t.port 0).assembly, (t.port 0).responses.length)) = (⟨.idle, []⟩, 1) := by decide

/-! ### Requests -/

/-- R157: HOLD released, PIN, generation 0, no session, no owner, empty table, all present, no flag after
clearing RESTARTED. -/
theorem test_readStatus :
    (let t := ran (.readStatus 0 0x21#8 1#8) (part .quorum);
      (answer 0 t, (t.stat 0).flags)) =
      ([0#8, 0#8, 0#8, 0#8, 0#8, 0#8, 0xFF#8, 0#8, 0x0F#8, 0#8, 1#8], 0#11) := by decide

/-- R16: a QUORUM line at rest, driven LOW, feedback OFF, is 0x20. -/
theorem test_readLines :
    answer 0 (ran (.readLines 0 0x21#8 1#8) (part .quorum)) = [0#8, 0#8] ++ List.replicate 16 0x20#8 := by decide

/-- R17, R54: the leased L6 of chapter 11.2: owner M1 and 8000 ms left. -/
theorem test_readLine :
    answer 0 (ran (.readLine 0 0x21#8 1#8 6#8) owned) =
      [0#8, 6#8, 1#8, 2#8, 0#8, 0x03#8, 0xE8#8, 0x27#8, 0x10#8, 0#8, 20#8, 1#8, 1#8, 0#8, 1#8, 0x1F#8, 0x40#8, 0#8,
        0#8, 0#8, 0#8, 0#8, 0#8] := by decide

/-- R52: one entry from position 0, none after it. -/
theorem test_readProposals :
    answer 0 (ran (.readProposals 0 0x21#8 1#8 0#8) (withTable [pulseEntry] (part .quorum))) =
      [0#8, 1#8, 0#8, 4#8, 0#8, 1#8, 3#8, 0x02#8, 0x58#8, 0x01#8, 2#8, 0x13#8, 0x88#8] := by decide

/-- R127: the global block of the defaults. -/
theorem test_readConfig :
    answer 0 (ran (.readConfig 0 0x21#8 1#8 0x10#8) (part .quorum)) =
      [0#8, 0x10#8, 0#8, 0#8, 0x03#8, 0xE8#8, 0x13#8, 0x88#8, 2#8, 3#8, 2#8, 0x0F#8] := by decide

/-- R128: without a session READ_SHADOW is refused with NO_SESSION. -/
theorem test_readShadow_no_session :
    answer 0 (ran (.readShadow 0 0x21#8 1#8 0#8) (part .quorum)) = [0x8B#8] := by decide

/-- Chapter 11.3 at 600: VOTING, owner, revision 1, differs. -/
theorem test_readShadow_differs :
    (answer 1 (ran (.readShadow 1 0x21#8 1#8 10#8) votingPart)).take 7 =
      [0#8, 2#8, 0#8, 0#8, 1#8, 10#8, 1#8] := by decide

/-- R88, R90: the first HEARTBEAT admits its master. -/
theorem test_heartbeat_admits :
    answer 3 (ran (.heartbeat 3 0x21#8 5#8) State.reset) = [0#8, 1#8, 0#8, 0x03#8, 0xE8#8] := by decide

/-- R159, R194: bits 7 to 6 of the mask are ignored and reported as 0. -/
theorem test_subscribe :
    answer 0 (ran (.subscribe 0 0x21#8 5#8 0xC5#8) (part .quorum)) = [0#8, 5#8] := by decide

/-- R149: RESYNC reports and clears the flags and zeroes the counter; its response is stored. -/
theorem test_resync :
    (let t := ran (.resync 0 0x21#8 5#8) ((part .quorum).setStat 0 ⟨0x405#11, 3#6, [], 17#8⟩);
      (answer 0 t, t.stat 0, (t.port 0).stored.valid)) = ([0#8, 0x04#8, 0x05#8], ⟨0#11, 3#6, [], 0#8⟩, true) := by
  decide

/-- R55: ASSERT_LINE adds the requester to the set. -/
theorem test_assertLine_shared :
    (let t := ran (.assertLine 1 0x21#8 5#8 9#8) (part .shared);
      ((t.line 9).asserted, (t.line 9).commanded, t.driven 9)) = (2#4, .active, .high) := by decide

/-- R53 check 6: HELD while HOLD is asserted. -/
theorem test_assertLine_held :
    answer 1 (ran (.assertLine 1 0x21#8 5#8 9#8) (heldPart (part .shared))) = [0x8D#8] := by decide

/-- R56: a set that keeps a member keeps the line ACTIVE. -/
theorem test_releaseLine_keeps_active :
    (let s := (part .shared).updLine 9 fun l => { l with asserted := 3#4, commanded := .active }
      let t := ran (.releaseLine 1 0x21#8 5#8 9#8) s;
      ((t.line 9).asserted, (t.line 9).commanded)) = (1#4, .active) := by decide

/-- R60: a claim leaves the line RELEASED with 5000 ms left. -/
theorem test_claimLine :
    answer 1 (ran (.claimLine 1 0x21#8 5#8 6#8 5000#16) (part .leased)) =
      [0#8, 6#8, 0#8, 0#8, 0#8, 1#8, 0x13#8, 0x88#8, 0#8, 0#8] := by decide

/-- R54: BUSY gives the owner and its remaining time. -/
theorem test_claimLine_busy :
    answer 3 (ran (.claimLine 3 0x21#8 5#8 6#8 5000#16) { owned with count := 5600#32 }) =
      [0x85#8, 1#8, 0x09#8, 0x60#8] := by decide

/-- R61: RENEW_LEASE moves the deadline. -/
theorem test_renewLease :
    ((ran (.renewLease 1 0x21#8 5#8 6#8 10#16) { owned with count := 7#32 }).line 6).lease =
      some ⟨7#32, 10#16⟩ := by decide

/-- R64: RELINQUISH_LINE sets no LEASE_LOST. -/
theorem test_relinquishLine :
    (let t := ran (.relinquishLine 1 0x21#8 5#8 6#8) owned;
      ((t.line 6).owner, (t.line 6).commanded, hasFlag (t.stat 1).flags .leaseLost)) =
      (none, .released, false) := by decide

/-- R63: PULSE_LINE by the owner. -/
theorem test_pulseLine :
    ((ran (.pulseLine 1 0x21#8 5#8 6#8 1000#16) owned).line 6).pulse = some ⟨0#32, 1000#16⟩ := by decide

/-- R53 check 5: one millisecond above the pulse maximum is RANGE. -/
theorem test_pulseLine_range :
    answer 1 (ran (.pulseLine 1 0x21#8 5#8 6#8 1001#16) owned) = [0x82#8] := by decide

/-- Chapter 11.1 at 900: VOTED, id, 1 of 2. -/
theorem test_propose_opens :
    answer 2 (ran (.propose 2 0x21#8 5#8 0#8 1#8 3#8 600#16) { part .quorum with nextId := 4#8 }) =
      [1#8, 4#8, 1#8, 2#8] := by decide

/-- Chapter 11.1 at 200: the second vote carries the pulse. -/
theorem test_propose_carries :
    (let t := ran (.propose 1 0x21#8 5#8 0#8 1#8 3#8 600#16)
        { withTable [pulseEntry] (part .quorum) with count := 200#32 };
      (answer 1 t, (t.line 1).pulse, t.table)) = ([2#8, 4#8, 2#8, 2#8], some ⟨200#32, 600#16⟩, []) := by decide

/-- Chapter 11.1 at 1500: DONE with the id and the count left; the entry returns to OPEN. -/
theorem test_withdraw :
    (let t := ran (.withdraw 0 0x21#8 5#8 4#8)
        (heldPart (withTable [{ pulseEntry with voters := 5#4, state := .ready }] (part .quorum)));
      (answer 0 t, t.table)) = ([0#8, 4#8, 1#8], [{ pulseEntry with voters := 4#4 }]) := by decide

/-- Chapter 11.3 at 0: DONE with the generation. -/
theorem test_openConfig :
    answer 2 (ran (.openConfig 2 0x21#8 5#8) { part .quorum with generation := 7#16 }) = [0#8, 0#8, 7#8] := by
  decide

/-- Chapter 11.3 at 300: policy FIXED alone is written; revision 1. -/
theorem test_writeLineConfig :
    (let t := ran (.writeLineConfig 0 0x21#8 5#8 10#8 1#8 ⟨3#8, 0#8, 0#8, 0#16, 0#16, 0#8, 0#8⟩)
        (editing 0#16 (part .shared));
      (answer 0 t, match t.session with
        | .editing _ sh _ _ => some (sh.line 10)
        | _ => none)) = ([0#8, 0#8, 1#8], some (cfgOf .fixed)) := by decide

/-- R113: the first refused field is named; 9 ms is below the lease minimum (field 4). -/
theorem test_writeLineConfig_range :
    answer 0 (ran (.writeLineConfig 0 0x21#8 5#8 10#8 0x70#8 ⟨9#8, 9#8, 9#8, 0#16, 9#16, 2#8, 0#8⟩)
      (editing 0#16 (part .shared))) = [0x82#8, 4#8] := by decide

/-- R114: an empty port enable set is refused (parameter 5). -/
theorem test_writeGlobalConfig_range :
    answer 0 (ran (.writeGlobalConfig 0 0x21#8 5#8 0x20#8 ⟨0#16, 0#16, 0#8, 0#8, 0#8, 0#8⟩)
      (editing 4#16 (part .shared))) = [0x82#8, 5#8] := by decide

/-- Chapter 11.3 at 500: VOTED, id 20, 1 of 2, revision 1. -/
theorem test_commitConfig :
    answer 0 (ran (.commitConfig 0 0x21#8 5#8) { editing 1#16 (part .shared) with nextId := 20#8 }) =
      [1#8, 20#8, 1#8, 2#8, 0#8, 1#8] := by decide

/-- R124, R48: CLOSE_CONFIG in VOTING cancels the APPLY entry. -/
theorem test_closeConfig :
    (let t := ran (.closeConfig 0 0x21#8 5#8) votingPart;
      (answer 0 t, t.table, t.session)) = ([0#8], [], .none) := by decide

/-! ### Witnesses: states and operands that meet the hypotheses of the obligations -/

/-- A part whose ports are as after reset serves every request at once and anew. -/
theorem served (s : State) (p : PortId) (src tag : Byte) (code : RequestCode) (params : List Byte)
    (hr : s.rstn = .high) (hp : s.ports = State.reset.ports) : Served p src tag code params s := by
  have hq : s.port p = resetPort 0x40#8 := by
    show s.ports.get p = _
    rw [hp]
    revert p; decide
  refine ⟨⟨hr, ?_, ?_, ?_⟩, ?_⟩
  · rw [hq]; decide
  · rw [hq]; rfl
  · rw [hq]; decide
  · intro h
    have hv := h.1
    rw [hq] at hv
    exact absurd hv (by decide)

/-- A vote of M1 for a valid LINE or MASTER entry. -/
theorem votes (s : State) (m : MasterId) (sub : Subject) (act : Action) (arg : W16) (e : Entry)
    (h1 : s.entryOn sub = some e) (h2 : e.action = act) (h3 : act = .pulse → e.duration = some arg)
    (h4 : sub ≠ .config) (h5 : proposalValid s m act arg sub) (h6 : (s.master m).quarantined = false) :
    VotesFor s m sub act arg e where
  found := h1
  same := by
    rintro (h | ⟨ha, h⟩)
    · exact h h2
    · exact h (h3 ha)
  revision := fun h => absurd h h4
  valid := fun _ => h5
  unquarantined := h6

/-- The laws of the lines, as evaluation settles them. -/
abbrev LawfulLines (s : State) : Prop :=
  ∀ n : LineId,
    ((s.line n).cfg.policy = .shared → ((s.line n).commanded = .active ↔ (s.line n).asserted ≠ 0#4)) ∧
    ((s.line n).cfg.policy ≠ .shared → (s.line n).asserted = 0#4) ∧
    ((s.line n).cfg.policy ≠ .leased → (s.line n).owner = none) ∧
    ((s.line n).cfg.policy = .leased → (s.line n).owner = none → (s.line n).commanded = .released) ∧
    ((s.line n).cfg.policy = .fixed → (s.line n).commanded = .released) ∧
    (s.line n).lease.isSome = (s.line n).owner.isSome ∧
    ((s.line n).pulse.isSome = true →
      (s.line n).commanded = .active ∧ ((s.line n).cfg.policy = .leased ∨ (s.line n).cfg.policy = .quorum)) ∧
    ((s.line n).feedback = .off ↔ (s.line n).cfg.feedback = false) ∧
    ((s.line n).feedback = .settling ↔ (s.line n).settle.isSome = true) ∧
    (s.line n).cfg = s.config.line n ∧ (s.hold.qualified = .asserted → (s.line n).pulse = none)

/-- The laws of who holds what, as evaluation settles them. -/
abbrev LawfulHolders (s : State) : Prop :=
  (∀ n m, hasBit (s.line n).asserted m.val = true → s.eligible m = true) ∧
  (∀ n m, (s.line n).owner = some m → s.eligible m = true) ∧
  (∀ e ∈ s.table, ∀ m : MasterId, hasBit e.voters m.val = true → s.eligible m = true) ∧
  (∀ m, s.session.owner? = some m → s.eligible m = true)

/-- The laws of the table, as evaluation settles them. -/
abbrev LawfulTable (s : State) : Prop :=
  (∀ e ∈ s.table, ∀ n, e.subject = .line n → (s.line n).cfg.policy = .quorum) ∧
  s.table.length ≤ 12 ∧ (s.table.Pairwise fun a b => a.id ≠ b.id) ∧
  (s.table.Pairwise fun a b => a.subject ≠ b.subject) ∧
  s.nextId ≠ 0#8 ∧ (∃ m, (s.master m).quarantined = false)

/-- The laws of each entry, as evaluation settles them. -/
abbrev LawfulEntries (s : State) : Prop :=
  ∀ e ∈ s.table, pairing e.subject e.action = true ∧ e.voters ≠ 0#4 ∧ e.id ≠ 0#8 ∧
    (e.state = .voting → e.count < e.required.toNat) ∧
    (e.state = .ready → s.hold.qualified = .asserted ∧ e.activates = true) ∧
    (∀ m : MasterId, e.subject = .master m → hasBit e.voters m.val = false) ∧
    (∀ m, e.subject = .master m → ((s.master m).quarantined = true ↔ e.action = .reinstate))

/-- A lawful part with its session and its APPLY entry in step meets DecisionInv. -/
theorem decisionInv (s : State) (hl : LawfulLines s) (hh : LawfulHolders s) (ht : LawfulTable s)
    (he : LawfulEntries s)
    (ha : ∀ e ∈ s.table, e.subject = .config → ∃ o sh rev, s.session = .voting o sh rev ∧ e.revision = some rev)
    (hv : ∀ o sh rev, s.session = .voting o sh rev → ∃ e ∈ s.table, e.subject = .config) : DecisionInv s := by
  obtain ⟨h1, h2, h3, h4⟩ := hh
  obtain ⟨hq, hz, hi, hs, hn, hu⟩ := ht
  refine ⟨⟨?_, fun _ n => (hl n).2.2.2.2.2.2.2.2.2.1, fun hh n => (hl n).2.2.2.2.2.2.2.2.2.2 hh, hq, ?_, hz, hi⟩,
    ⟨h1, h2, h3, h4⟩, ?_, hs, hn, ha, hv, hu⟩
  · intro n
    obtain ⟨a, b, c, d, e, f, g, i, j, _⟩ := hl n
    exact ⟨a, b, c, d, e, f, g, i, j⟩
  · refine hs.imp ?_
    intro a b hab n hn hb
    exact hab (hn.trans hb.symm)
  · intro e hm
    obtain ⟨a, b, c, d, f, g, i⟩ := he e hm
    exact ⟨a, b, c, d, f, g, i⟩

/-- A lawful part with neither a session in VOTING nor an APPLY entry meets DecisionInv. -/
theorem decisionInv_plain (s : State) (hl : LawfulLines s) (hh : LawfulHolders s) (ht : LawfulTable s)
    (he : LawfulEntries s) (h1 : ∀ e ∈ s.table, e.subject ≠ .config)
    (h2 : s.session = .none) : DecisionInv s :=
  decisionInv s hl hh ht he (fun e he hc => absurd hc (h1 e he)) fun o sh rev hv => by rw [h2] at hv; exact nomatch hv

theorem witness_ExecKeepsTheQueue :
    exec .millisecondCountAdvance State.reset = .next { State.reset with count := 1#32 } := rfl

theorem witness_RstnAssertedHoldsThePartInReset :
    (ran .rstnAsserted State.reset).rstn = .low ∧ Instr.heartbeat 0 0x21#8 1#8 ≠ .rstnAsserted ∧
      Instr.heartbeat 0 0x21#8 1#8 ≠ .millisecondCountAdvance ∧
      (∀ a b h f, Instr.heartbeat 0 0x21#8 1#8 ≠ .rstnReleased a b h f) ∧
      (∀ l, Instr.heartbeat 0 0x21#8 1#8 ≠ .holdInputChange l) ∧
      ∀ n l, Instr.heartbeat 0 0x21#8 1#8 ≠ .feedbackInputChange n l :=
  ⟨rfl, nofun, nofun, nofun, nofun, nofun⟩

/-- The count of the wrap, and a deadline of 1 ms in the millisecond in which it is set and in the next. -/
theorem witness_TheMillisecondCount :
    ({ State.reset with count := 4294967295#32 } : State).count = 4294967295#32 ∧
      (0#32 - State.reset.count).toNat < (1#16).toNat ∧
      (1#16).toNat ≤ (1#32 - State.reset.count).toNat := by decide

theorem witness_ThePinCarriesTheDrivenLevel : State.reset.rstn = .high := rfl

/-- An unowned line with the shortest duration, and an owner's line with the lease maximum. -/
theorem witness_ClaimAndRenewSetTheLease :
    (((part .leased).master 1).quarantined = false ∧ ((part .leased).line 6).cfg.policy = .leased ∧
      10 ≤ (10#16).toNat ∧ (10#16).toNat ≤ ((part .leased).line 6).cfg.leaseMax.toNat ∧
      ((part .leased).line 6).owner = none ∧
      Served 1 0x21#8 1#8 .claimLine (lineByte 6 :: wordBytes 10#16) (part .leased)) ∧
    ((owned.master 1).quarantined = false ∧ (owned.line 6).cfg.policy = .leased ∧
      10 ≤ (10000#16).toNat ∧ (10000#16).toNat ≤ (owned.line 6).cfg.leaseMax.toNat ∧
      (owned.line 6).owner = some 1 ∧
      Served 1 0x21#8 1#8 .renewLease (lineByte 6 :: wordBytes 10000#16) owned) :=
  ⟨⟨by decide, by decide, by decide, by decide, by decide, served _ _ _ _ _ _ rfl rfl⟩,
    ⟨by decide, by decide, by decide, by decide, by decide, served _ _ _ _ _ _ rfl rfl⟩⟩

theorem witness_RelinquishEndsTheLease :
    Served 1 0x21#8 1#8 .relinquishLine [lineByte 6] owned ∧ (owned.master 1).quarantined = false ∧
      (owned.line 6).cfg.policy = .leased ∧ (owned.line 6).owner = some 1 :=
  ⟨served _ _ _ _ _ _ rfl rfl, by decide, by decide, by decide⟩

theorem witness_AssertAndReleaseChangeTheLine :
    (((part .shared).master 1).quarantined = false ∧ ((part .shared).line 9).cfg.policy = .shared ∧
      (part .shared).hold.qualified = .released ∧
      Served 1 0x21#8 1#8 .assertLine [lineByte 9] (part .shared) ∧
      Served 1 0x21#8 1#8 .releaseLine [lineByte 9] (part .shared)) ∧
    ((owned.master 1).quarantined = false ∧ (owned.line 6).cfg.policy = .leased ∧
      (owned.line 6).owner = some 1 ∧ owned.hold.qualified = .released ∧
      Served 1 0x21#8 1#8 .assertLine [lineByte 6] owned ∧
      Served 1 0x21#8 1#8 .releaseLine [lineByte 6] owned) :=
  ⟨⟨by decide, by decide, rfl, served _ _ _ _ _ _ rfl rfl, served _ _ _ _ _ _ rfl rfl⟩,
    ⟨by decide, by decide, by decide, rfl, served _ _ _ _ _ _ rfl rfl, served _ _ _ _ _ _ rfl rfl⟩⟩

/-- The shortest pulse. -/
theorem witness_PulseLineStartsAPulse :
    Served 1 0x21#8 1#8 .pulseLine (lineByte 6 :: wordBytes 1#16) owned ∧
      (owned.master 1).quarantined = false ∧ (owned.line 6).cfg.policy = .leased ∧
      (owned.line 6).owner = some 1 ∧ 1 ≤ (1#16).toNat ∧
      (1#16).toNat ≤ (owned.line 6).cfg.pulseMax.toNat ∧ owned.hold.qualified = .released :=
  ⟨served _ _ _ _ _ _ rfl rfl, by decide, by decide, by decide, by decide, by decide, rfl⟩

/-- A refusal one millisecond below the shortest lease, a request that passes every check, and line 16. -/
theorem witness_DirectRequestsAreCheckedInOrder :
    (Served 1 0x21#8 1#8 .claimLine (lineByte 6 :: wordBytes 9#16) owned ∧
      (Instr.claimLine 1 0x21#8 1#8 (lineByte 6) 9#16, RequestCode.claimLine, lineByte 6 :: wordBytes 9#16) ∈
        directRequests 1 0x21#8 1#8 (lineByte 6) 9#16 ∧
      directRefusal owned 1 6 .claimLine 9#16 = some (.range, [])) ∧
    ((Instr.claimLine 1 0x21#8 1#8 (lineByte 6) 10#16, RequestCode.claimLine, lineByte 6 :: wordBytes 10#16) ∈
        directRequests 1 0x21#8 1#8 (lineByte 6) 10#16 ∧
      directRefusal owned 1 6 .claimLine 10#16 = none) ∧
    (16 ≤ (16#8).toNat ∧ (Instr.assertLine 1 0x21#8 1#8 16#8, RequestCode.assertLine, [16#8]) ∈
        directRequests 1 0x21#8 1#8 16#8 0#16) :=
  ⟨⟨served _ _ _ _ _ _ rfl rfl, by decide, by decide⟩, ⟨by decide, by decide⟩, by decide, by decide⟩

/-- The pulse and the lease that end in this very millisecond. -/
theorem witness_LineDeadlinesReleaseTheLine :
    (let s : State := { owned.updLine 6 (Line.startPulse 0#32 600#16) with count := 600#32 };
      s.rstn = .high ∧ (s.line 6).pulse = some ⟨0#32, 600#16⟩ ∧
        (⟨0#32, 600#16⟩ : Deadline).reached s.count = true) ∧
    (let s : State := { owned with count := 8000#32 };
      s.rstn = .high ∧ (s.line 6).owner = some 1 ∧ (s.line 6).lease = some ⟨0#32, 8000#16⟩ ∧
        (⟨0#32, 8000#16⟩ : Deadline).reached s.count = true) := by decide

/-- An absent deadline, and one a millisecond away. -/
theorem witness_DeadlinesNotReachedChangeNothing :
    (State.reset.line 0).pulse = none ∧ (owned.line 6).lease = some ⟨0#32, 8000#16⟩ ∧
      (⟨0#32, 8000#16⟩ : Deadline).reached 7999#32 = false ∧ State.reset.table = [] ∧
      (State.reset.master 0).deadline = none ∧ State.reset.session = .none := by decide

theorem witness_SettleDeadlineCompares :
    (let s : State := { (part .quorum).updLine 2 fun l =>
        { l with feedback := .settling, settle := some ⟨0#32, 20#16⟩ } with count := 20#32 };
      s.rstn = .high ∧ (s.line 2).settle = some ⟨0#32, 20#16⟩ ∧
        (⟨0#32, 20#16⟩ : Deadline).reached s.count = true ∧ s.input 2 = s.driven 2 ∧
        ({ s with fbk := s.fbk.set 2 .high } : State).input 2 ≠ s.driven 2) := by decide

theorem witness_FeedbackInputChangeReversesTheComparison :
    (part .quorum).rstn = .high ∧ Level.high ≠ (part .quorum).input 2 ∧
      ((part .quorum).line 2).feedback = .off ∧
      (((part .quorum).updLine 2 fun l => { l with feedback := .settling }).line 2).feedback = .settling ∧
      (((part .quorum).updLine 2 fun l => { l with feedback := .matching }).line 2).feedback = .matching ∧
      (((part .quorum).updLine 2 fun l => { l with feedback := .mismatch }).line 2).feedback = .mismatch := by
  decide

theorem witness_HoldInputChangeRestartsTheMeasurement :
    State.reset.rstn = .high ∧ Level.high ≠ State.reset.hold.raw := by decide

theorem witness_HoldAssertedDrivesEveryLineSafe :
    (let s : State := { owned with hold := ⟨.high, .released, some 1000⟩ };
      s.rstn = .high ∧ s.hold.raw = .high ∧ s.hold.qualified = .released) := by decide

theorem witness_HoldReleasedReturnsTheLines :
    (let s : State := { owned with hold := ⟨.low, .asserted, some 1000⟩ };
      s.rstn = .high ∧ s.hold.raw = .low ∧ s.hold.qualified = .asserted ∧
        ∀ e ∈ s.table, e.state ≠ .ready) := by decide

/-- The part of chapter 11.1 just before HOLD is released: a READY pulse on L1, an OPEN entry on L2. -/
def readyPart : State :=
  { withTable [{ pulseEntry with voters := 6#4, state := .ready }, entryOf 5#8 (.line 2) .assert]
      (part .quorum) with hold := ⟨.low, .asserted, some 1000⟩ }

theorem witness_HoldReleasedCarriesTheReadyEntries :
    readyPart.rstn = .high ∧ readyPart.hold.raw = .low ∧ readyPart.hold.qualified = .asserted ∧
      DecisionInv readyPart :=
  ⟨rfl, rfl, rfl, decisionInv_plain _ (by decide) (by decide) (by decide) (by decide) (by decide) rfl⟩

/-- A LINE pulse of the longest duration, a QUARANTINE of another master, and a RESTART. -/
theorem witness_ProposeOpensAnEntry :
    (pairing (.line 1) .pulse = true ∧ indexSpells (lineByte 1) (.line 1) ∧
      Served 0 0x21#8 1#8 .propose (proposalParams (.line 1) (lineByte 1) .pulse 1000#16) (part .quorum) ∧
      ((part .quorum).master 0).quarantined = false ∧ proposalValid (part .quorum) 0 .pulse 1000#16 (.line 1) ∧
      (part .quorum).entryOn (.line 1) = none ∧ (part .quorum).table.length < 12 ∧
      2 ≤ (freshEntry (part .quorum) (part .quorum).freeId 0 (.line 1) .pulse 1000#16).required.toNat) ∧
    (pairing (.master 3) .quarantine = true ∧ proposalValid (part .quorum) 0 .quarantine 0#16 (.master 3) ∧
      2 ≤ (freshEntry (part .quorum) (part .quorum).freeId 0 (.master 3) .quarantine 0#16).required.toNat) ∧
    (pairing .part .restart = true ∧ indexSpells 0x99#8 .part ∧
      proposalValid (part .quorum) 0 .restart 0#16 .part) :=
  ⟨⟨rfl, rfl, served _ _ _ _ _ _ rfl rfl, by decide, ⟨by decide, by decide⟩, by decide, by decide, by decide⟩,
    ⟨rfl, ⟨by decide, by decide⟩, by decide⟩, rfl, trivial, trivial⟩

/-- The counter at 255 with its id and id 1 taken. -/
theorem witness_TheNewIdIsTheFirstFreeOne :
    (let s : State := { part .quorum with
        table := [entryOf 255#8 (.line 1) .assert, entryOf 1#8 (.line 2) .assert], nextId := 255#8 };
      s.table.length ≤ 11 ∧ s.nextId ≠ 0#8 ∧ s.freeId = 2#8) := by decide

/-- A voter, a new voter of an entry of 3, and a vote for a READY entry. -/
theorem witness_VotesAreCounted :
    (let e := pulseEntry;
      VotesFor (withTable [e] (part .quorum)) 0 (.line 1) .pulse 600#16 e ∧ hasBit e.voters 0 = true) ∧
    (let e := { pulseEntry with required := 3#8 };
      pairing (.line 1) .pulse = true ∧ indexSpells (lineByte 1) (.line 1) ∧
      Served 1 0x21#8 1#8 .propose (proposalParams (.line 1) (lineByte 1) .pulse 600#16)
        (withTable [e] (part .quorum)) ∧
      VotesFor (withTable [e] (part .quorum)) 1 (.line 1) .pulse 600#16 e ∧
      hasBit e.voters 1 = false ∧ e.state = .voting ∧ (withVote 1 e).count < e.required.toNat) ∧
    (let e := { pulseEntry with voters := 5#4, state := .ready };
      VotesFor (heldPart (withTable [e] (part .quorum))) 1 (.line 1) .pulse 600#16 e ∧
      hasBit e.voters 1 = false ∧ e.state = .ready) :=
  ⟨⟨votes _ _ _ _ _ _ (by decide) rfl (fun _ => rfl) nofun ⟨by decide, by decide⟩ (by decide), by decide⟩,
    ⟨rfl, rfl, served _ _ _ _ _ _ rfl rfl,
      votes _ _ _ _ _ _ (by decide) rfl (fun _ => rfl) nofun ⟨by decide, by decide⟩ (by decide),
      by decide, by decide, by decide⟩,
    votes _ _ _ _ _ _ (by decide) rfl (fun _ => rfl) nofun ⟨by decide, by decide⟩ (by decide),
    by decide, by decide⟩

/-- A part in which one vote is enough: every quorum is 1. -/
def soloPart : State :=
  let cfg : LineConfig := { cfgOf .quorum with quorum := 1#8 }
  { part .quorum with
    lines := Vector.replicate 16 (resetLine cfg)
    config := ⟨Vector.replicate 16 cfg,
      { defaultGlobals with quarantineQuorum := 1#8, restartQuorum := 1#8, configQuorum := 1#8 }⟩ }

/-- A READY PULSE of M0 under HOLD on a line of quorum 1. -/
def soloReady : Entry := { pulseEntry with required := 1#8, state := .ready }

/-- M0 supersedes its READY PULSE of 600 ms on L1. -/
theorem superseding (act : Action) (arg : W16) (h1 : proposalValid soloPart 0 act arg (.line 1))
    (h2 : differs soloReady act arg) :
    ∃ e reached, CountReached (heldPart (withTable [soloReady] soloPart)) 0 (.line 1) act arg e reached :=
  ⟨_, _, .superseded soloReady 1 _ (by decide) h1 rfl (by decide) h2 (by decide) rfl (by show 1 ≤ 1; decide)⟩

/-- The second vote of an entry of 2, an entry that opens on a line of quorum 1, and under HOLD a RELEASE that
supersedes. -/
theorem witness_LineEntriesAreCarried :
    (let s := withTable [pulseEntry] (part .quorum);
      pairing (.line 1) .pulse = true ∧
      Served 1 0x21#8 1#8 .propose (proposalParams (.line 1) (lineByte 1) .pulse 600#16) s ∧
      s.hold.qualified = .released ∧
      ∃ e reached, CountReached s 1 (.line 1) .pulse 600#16 e reached) ∧
    (Served 1 0x21#8 1#8 .propose (proposalParams (.line 1) (lineByte 1) .assert 0#16) soloPart ∧
      soloPart.hold.qualified = .released ∧
      ∃ e reached, CountReached soloPart 1 (.line 1) .assert 0#16 e reached) ∧
    (Served 0 0x21#8 1#8 .propose (proposalParams (.line 1) (lineByte 1) .release 0#16)
        (heldPart (withTable [soloReady] soloPart)) ∧
      ∃ e reached, CountReached (heldPart (withTable [soloReady] soloPart)) 0 (.line 1) .release 0#16 e reached) :=
  ⟨⟨rfl, served _ _ _ _ _ _ rfl rfl, rfl, _, _, .vote pulseEntry
      (votes _ _ _ _ _ _ (by decide) rfl (fun _ => rfl) nofun ⟨by decide, by decide⟩ (by decide))
      (by decide) (by decide) (by decide)⟩,
    ⟨served _ _ _ _ _ _ rfl rfl, rfl, _, _,
      .opened (by decide) ⟨by decide, by decide⟩ (by decide) (by decide) (by decide)⟩,
    served _ _ _ _ _ _ rfl rfl, superseding .release 0#16 ⟨by decide, by decide⟩ (.inl (by decide))⟩

/-- A vote, an entry that opens under a quorum of 1, and a PULSE of 601 ms that supersedes one of 600 ms. -/
theorem witness_EntriesBecomeReadyUnderHold :
    (let s := heldPart (withTable [pulseEntry] (part .quorum));
      s.hold.qualified = .asserted ∧
      Served 1 0x21#8 1#8 .propose (proposalParams (.line 1) (lineByte 1) .pulse 600#16) s ∧
      ∃ e reached, CountReached s 1 (.line 1) .pulse 600#16 e reached) ∧
    (Served 1 0x21#8 1#8 .propose (proposalParams (.line 1) (lineByte 1) .assert 0#16) (heldPart soloPart) ∧
      ∃ e reached, CountReached (heldPart soloPart) 1 (.line 1) .assert 0#16 e reached) ∧
    (Served 0 0x21#8 1#8 .propose (proposalParams (.line 1) (lineByte 1) .pulse 601#16)
        (heldPart (withTable [soloReady] soloPart)) ∧
      ∃ e reached, CountReached (heldPart (withTable [soloReady] soloPart)) 0 (.line 1) .pulse 601#16 e reached) :=
  ⟨⟨rfl, served _ _ _ _ _ _ rfl rfl, _, _, .vote pulseEntry
      (votes _ _ _ _ _ _ (by decide) rfl (fun _ => rfl) nofun ⟨by decide, by decide⟩ (by decide))
      (by decide) (by decide) (by decide)⟩,
    ⟨served _ _ _ _ _ _ rfl rfl, _, _,
      .opened (by decide) ⟨by decide, by decide⟩ (by decide) (by decide) (by decide)⟩,
    served _ _ _ _ _ _ rfl rfl,
    superseding .pulse 601#16 ⟨by decide, by decide⟩ (.inr ⟨rfl, by decide⟩)⟩

/-- M0 alone asked for 600 ms and now asks for 601. -/
theorem witness_TheSoleVoterSupersedes :
    (let s := withTable [pulseEntry] (part .quorum);
      pairing (.line 1) .pulse = true ∧
      Served 0 0x21#8 1#8 .propose (proposalParams (.line 1) (lineByte 1) .pulse 601#16) s ∧
      (s.master 0).quarantined = false ∧ proposalValid s 0 .pulse 601#16 (.line 1) ∧
      s.entryOn (.line 1) = some pulseEntry ∧ differs pulseEntry .pulse 601#16 ∧
      pulseEntry.voters = onlyBit 0 ∧ 2 ≤ (s.config.line 1).quorum.toNat) :=
  ⟨rfl, served _ _ _ _ _ _ rfl rfl, by decide, ⟨by decide, by decide⟩, by decide, .inr ⟨rfl, by decide⟩,
    by decide, by decide⟩

/-- The part with M2 quarantined. -/
def quarantinedPart (s : State) : State := s.setMaster 2 { s.master 2 with quarantined := true }

/-- A table of twelve entries on L0 to L11. -/
def fullTable : List Entry := (allLines.take 12).map fun n => entryOf (byteOf (n.val + 1)) (.line n) .assert

/-- One state for each refusal of a PROPOSE, at its boundary value. -/
theorem witness_ProposeIsRefusedByItsChecks :
    ProposeRefused (quarantinedPart (part .quorum)) 2 .assert 0#16 (.line 1) .quarantined [] ∧
    ProposeRefused (part .shared) 0 .assert 0#16 (.line 1) .policy [] ∧
    ProposeRefused ((part .quorum).updLine 1 fun l => { l with cfg := { l.cfg with pulseMax := 0#16 } })
      0 .pulse 1#16 (.line 1) .policy [] ∧
    ProposeRefused (part .quorum) 0 .pulse 1001#16 (.line 1) .range [] ∧
    ProposeRefused (part .quorum) 0 .pulse 0#16 (.line 1) .range [] ∧
    ProposeRefused (part .quorum) 0 .quarantine 0#16 (.master 0) .notEligible [] ∧
    ProposeRefused (quarantinedPart (part .quorum)) 0 .quarantine 0#16 (.master 2) .state [] ∧
    ProposeRefused (part .quorum) 0 .reinstate 0#16 (.master 2) .state [] ∧
    ProposeRefused (part .quorum) 0 .apply 0#16 .config .noSession [] ∧
    ProposeRefused votingPart 1 .apply 2#16 .config .stale (20#8 :: wordBytes 1#16) ∧
    ProposeRefused (withTable fullTable (part .quorum)) 0 .assert 0#16 (.line 12) .tableFull [] ∧
    ProposeRefused (withTable [pulseEntry] (part .quorum)) 1 .pulse 601#16 (.line 1) .conflict
      ([4#8, 3#8] ++ wordBytes 600#16) ∧
    (pairing (.line 1) .pulse = true ∧ indexSpells (lineByte 1) (.line 1) ∧
      Served 0 0x21#8 1#8 .propose (proposalParams (.line 1) (lineByte 1) .pulse 1001#16) (part .quorum)) :=
  ⟨.quarantined _ (by decide), .policy _ (by decide) (by decide),
    .noPulse _ (by decide) (by decide) rfl (by decide),
    .range _ (by decide) (by decide) rfl (by decide) (.inr (by decide)),
    .range _ (by decide) (by decide) rfl (by decide) (.inl rfl),
    .notEligible (by decide) rfl, .quarantinedAlready _ (by decide) rfl (by decide) (by decide),
    .notQuarantined _ (by decide) rfl (by decide), .noSession (by decide) (by decide),
    .stale applyEntry 1#16 (by decide) (by decide) rfl (by decide),
    .tableFull _ (by decide) ⟨by decide, by decide⟩ (by decide) (by decide),
    .conflict (.line 1) pulseEntry (by decide) ⟨by decide, by decide⟩ (by decide) (.inr ⟨rfl, by decide⟩)
      (by decide),
    rfl, rfl, served _ _ _ _ _ _ rfl rfl⟩

/-- M1's QUARANTINE entry on M3, with M0's vote, in a part where M3 holds a lease. -/
def quarantiningPart : State :=
  (withTable [entryOf 7#8 (.master 3) .quarantine] (part .leased)).updLine 6 fun l =>
    { l with owner := some 3, lease := some ⟨0#32, 8000#16⟩, commanded := .active }

/-- The second vote of an entry of 2, and a QUARANTINE that opens under a quarantine quorum of 1. -/
theorem witness_QuarantineTakesAllThatTheTargetHolds :
    (DecisionInv quarantiningPart ∧
      Served 1 0x21#8 1#8 .propose (proposalParams (.master 3) (masterByte 3) .quarantine 0#16) quarantiningPart ∧
      ∃ e reached, CountReached quarantiningPart 1 (.master 3) .quarantine 0#16 e reached) ∧
    (DecisionInv soloPart ∧
      Served 1 0x21#8 1#8 .propose (proposalParams (.master 3) (masterByte 3) .quarantine 0#16) soloPart ∧
      ∃ e reached, CountReached soloPart 1 (.master 3) .quarantine 0#16 e reached) :=
  ⟨⟨decisionInv_plain _ (by decide) (by decide) (by decide) (by decide) (by decide) rfl, served _ _ _ _ _ _ rfl rfl,
      _, _, .vote (entryOf 7#8 (.master 3) .quarantine)
        (votes _ _ _ _ _ _ (by decide) rfl nofun nofun ⟨by decide, by decide⟩ (by decide))
        (by decide) (by decide) (by decide)⟩,
    decisionInv_plain _ (by decide) (by decide) (by decide) (by decide) (by decide) rfl,
    served _ _ _ _ _ _ rfl rfl, _, _,
    .opened (by decide) ⟨by decide, by decide⟩ (by decide) (by decide) (by decide)⟩

/-- The second vote of an entry of 2, and a REINSTATE that opens under a quarantine quorum of 1. -/
theorem witness_ReinstateClearsTheMark :
    (let s := quarantinedPart (withTable [entryOf 7#8 (.master 2) .reinstate] (part .quorum));
      Served 1 0x21#8 1#8 .propose (proposalParams (.master 2) (masterByte 2) .reinstate 0#16) s ∧
      ∃ e reached, CountReached s 1 (.master 2) .reinstate 0#16 e reached) ∧
    (Served 1 0x21#8 1#8 .propose (proposalParams (.master 2) (masterByte 2) .reinstate 0#16)
        (quarantinedPart soloPart) ∧
      ∃ e reached, CountReached (quarantinedPart soloPart) 1 (.master 2) .reinstate 0#16 e reached) :=
  ⟨⟨served _ _ _ _ _ _ rfl rfl, _, _, .vote (entryOf 7#8 (.master 2) .reinstate)
      (votes _ _ _ _ _ _ (by decide) rfl nofun nofun ⟨by decide, by decide⟩ (by decide))
      (by decide) (by decide) (by decide)⟩,
    served _ _ _ _ _ _ rfl rfl, _, _,
    .opened (by decide) ⟨by decide, by decide⟩ (by decide) (by decide) (by decide)⟩

/-- The third vote of an entry of 3, and a RESTART that opens under a restart quorum of 1. -/
theorem witness_RestartClearsTheDecisionState :
    (let e := { entryOf 7#8 .part .restart with voters := 5#4, required := 3#8 };
      Served 1 0x21#8 1#8 .propose (proposalParams .part 0x99#8 .restart 0#16) (withTable [e] owned) ∧
      ∃ x reached, CountReached (withTable [e] owned) 1 .part .restart 0#16 x reached) ∧
    (Served 1 0x21#8 1#8 .propose (proposalParams .part 0x99#8 .restart 0#16) soloPart ∧
      ∃ x reached, CountReached soloPart 1 .part .restart 0#16 x reached) :=
  ⟨⟨served _ _ _ _ _ _ rfl rfl, _, _, .vote { entryOf 7#8 .part .restart with voters := 5#4, required := 3#8 }
      (votes _ _ _ _ _ _ (by decide) rfl nofun nofun trivial (by decide)) (by decide) (by decide) (by decide)⟩,
    served _ _ _ _ _ _ rfl rfl, _, _, .opened (by decide) trivial (by decide) (by decide) (by decide)⟩

theorem votingPart_lawful : DecisionInv votingPart :=
  decisionInv _ (by decide) (by decide) (by decide) (by decide)
    (fun e he _ => ⟨0, (part .shared).config, 1#16, rfl, by
      have h : e = applyEntry := by simpa [votingPart, withTable] using he
      rw [h]; rfl⟩)
    fun _ _ _ _ => ⟨applyEntry, by simp [votingPart, withTable], rfl⟩

/-- The second vote for revision 1, and a commit under a configuration quorum of 1. -/
theorem witness_ApplyMakesTheShadowCurrent :
    (DecisionInv votingPart ∧
      Served 1 0x21#8 1#8 .propose (proposalParams .config 0x99#8 .apply 1#16) votingPart ∧
      VotesFor votingPart 1 .config .apply 1#16 applyEntry ∧ hasBit applyEntry.voters 1 = false ∧
      applyEntry.required.toNat ≤ (withVote 1 applyEntry).count ∧
      votingPart.session = .voting 0 (part .shared).config 1#16) ∧
    (let c : Configuration := ⟨Vector.replicate 16 (cfgOf .quorum), { defaultGlobals with configQuorum := 1#8 }⟩;
      let s : State := { part .quorum with config := c, session := .editing 0 (part .shared).config 5#16 ⟨0#32, 10000#16⟩ };
      DecisionInv s ∧ Served 0 0x21#8 1#8 .commitConfig [] s ∧ (s.master 0).quarantined = false ∧
      s.session = .editing 0 (part .shared).config 5#16 ⟨0#32, 10000#16⟩ ∧ s.table.length < 12 ∧
      s.config.globals.configQuorum.toNat ≤ 1) :=
  ⟨⟨votingPart_lawful, served _ _ _ _ _ _ rfl rfl,
      ⟨by decide, fun h => h.elim (fun h => h rfl) (fun h => nomatch h.1), fun _ => rfl,
        fun h => absurd rfl h, by decide⟩, by decide, by decide, rfl⟩,
    decisionInv _ (by decide) (by decide) (by decide) (by decide) (fun e he _ => nomatch he) (fun _ _ _ h => nomatch h),
    served _ _ _ _ _ _ rfl rfl, by decide, rfl, by decide, by decide⟩

/-- A quarantined requester, an id that no entry has, and M0's last vote. -/
theorem witness_WithdrawRemovesTheVote :
    (((quarantinedPart (part .quorum)).master 2).quarantined = true ∧
      Served 2 0x21#8 1#8 .withdraw [4#8] (quarantinedPart (part .quorum))) ∧
    (part .quorum).entryById 4#8 = none ∧
    (let s := withTable [pulseEntry] (part .quorum);
      (s.master 0).quarantined = false ∧ s.entryById 4#8 = some pulseEntry ∧
      hasBit pulseEntry.voters 0 = true ∧
      ({ pulseEntry with voters := removeBit pulseEntry.voters 0 } : Entry).voters = 0#4) :=
  ⟨⟨by decide, served _ _ _ _ _ _ rfl rfl⟩, by decide, by decide, by decide, by decide, by decide⟩

/-- A LINE entry and the APPLY entry of chapter 11.3 in the millisecond of their deadline. -/
theorem witness_EntryDeadlineExpiresTheEntry :
    (let s : State := { withTable [pulseEntry] (part .quorum) with count := 5000#32 };
      s.rstn = .high ∧ s.entryById 4#8 = some pulseEntry ∧ pulseEntry.deadline.reached s.count = true ∧
      pulseEntry.subject ≠ .config) ∧
    (let s : State := { votingPart with count := 5000#32 };
      s.rstn = .high ∧ s.entryById 20#8 = some applyEntry ∧ applyEntry.deadline.reached s.count = true ∧
      applyEntry.subject = .config ∧ s.session = .voting 0 (part .shared).config 1#16) :=
  ⟨by decide, by decide, by decide, by decide, by decide, rfl⟩

theorem witness_SessionsOpenAndClose :
    (((part .quorum).master 0).quarantined = false ∧ (part .quorum).session = .none ∧
      Served 0 0x21#8 1#8 .openConfig [] (part .quorum)) ∧
    (ownsEditing (editing 0#16 (part .quorum)) 0 ∧
      Served 0 0x21#8 1#8 .closeConfig [] (editing 0#16 (part .quorum))) ∧
    (ownsVoting votingPart 0 ∧ votingPart.entryOn .config = some applyEntry ∧
      Served 0 0x21#8 1#8 .closeConfig [] votingPart) :=
  ⟨⟨by decide, rfl, served _ _ _ _ _ _ rfl rfl⟩, ⟨⟨_, _, _, rfl⟩, served _ _ _ _ _ _ rfl rfl⟩,
    ⟨_, _, rfl⟩, by decide, served _ _ _ _ _ _ rfl rfl⟩

/-- Every line field and every global parameter at a boundary of its range, at the last revision but one. -/
theorem witness_WritesAreTakenIntoTheShadow :
    (let s := editing 0xFFFE#16 (part .quorum);
      let b : LineBlock := ⟨3#8, 4#8, 1#8, 60000#16, 10#16, 1#8, 1#8⟩;
      let g : GlobalBlock := ⟨100#16, 60000#16, 3#8, 4#8, 1#8, 15#8⟩;
      (s.master 0).quarantined = false ∧
      s.session = .editing 0 (part .quorum).config 0xFFFE#16 ⟨0#32, 10000#16⟩ ∧ 0xFFFE#16 ≠ 0xFFFF#16 ∧
      (∀ params, Served 0 0x21#8 1#8 .writeLineConfig params s) ∧
      (∀ params, Served 0 0x21#8 1#8 .writeGlobalConfig params s) ∧
      (∀ i, i < 7 → hasBit 0x7F#8 i = true → lineFieldValid b i) ∧
      ∀ i, i < 6 → hasBit 0x3F#8 i = true → globalFieldValid g i) := by
  refine ⟨by decide, rfl, by decide, fun _ => served _ _ _ _ _ _ rfl rfl, fun _ => served _ _ _ _ _ _ rfl rfl,
    ?_, ?_⟩
  · intro i hi _
    match i, hi with
    | 0, _ | 1, _ | 2, _ | 3, _ | 4, _ | 5, _ | 6, _ => simp [lineFieldValid]
  · intro i hi _
    match i, hi with
    | 0, _ | 1, _ | 2, _ | 3, _ | 4, _ | 5, _ => simp [globalFieldValid]

/-- A lease maximum of 9 ms, and a write at the last revision. -/
theorem witness_WritesOutOfRangeAreRefused :
    (let s := editing 0xFFFF#16 (part .quorum);
      let b : LineBlock := ⟨0#8, 1#8, 0#8, 0#16, 9#16, 0#8, 1#8⟩;
      (s.master 0).quarantined = false ∧
      s.session = .editing 0 (part .quorum).config 0xFFFF#16 ⟨0#32, 10000#16⟩ ∧
      (∀ params, Served 0 0x21#8 1#8 .writeLineConfig params s) ∧
      FirstBad 0x7F#8 (lineFieldValid b) 7 4 ∧
      ∀ i, i < 7 → hasBit 0x0F#8 i = true → lineFieldValid b i) := by
  refine ⟨by decide, rfl, fun _ => served _ _ _ _ _ _ rfl rfl, ⟨by decide, by decide, by simp [lineFieldValid], ?_⟩,
    ?_⟩
  · intro j hj _
    match j, hj with
    | 0, _ | 1, _ | 2, _ | 3, _ => simp [lineFieldValid]
  · intro i hi hb
    match i, hi with
    | 0, _ | 1, _ | 2, _ | 3, _ => simp [lineFieldValid]
    | 4, _ | 5, _ | 6, _ => exact absurd hb (by decide)

/-- A table with a place, and a full one. -/
theorem witness_CommitOpensTheApplyEntry :
    (let s := editing 1#16 (part .quorum);
      Served 0 0x21#8 1#8 .commitConfig [] s ∧ (s.master 0).quarantined = false ∧
      s.session = .editing 0 (part .quorum).config 1#16 ⟨0#32, 10000#16⟩ ∧ s.table.length < 12 ∧
      2 ≤ s.config.globals.configQuorum.toNat) ∧
    (editing 1#16 (withTable fullTable (part .quorum))).table.length = 12 :=
  ⟨⟨served _ _ _ _ _ _ rfl rfl, by decide, rfl, by decide, by decide⟩, by decide⟩

/-- A quarantined master, a master that owns no session, the owner in VOTING, an OPEN_CONFIG with a session
open, and a READ_SHADOW without one. -/
theorem witness_SessionRequestsAreRefusedByTheSession :
    (requestOf (.commitConfig 2 0x21#8 1#8) = some (2, 0x21#8, 1#8, .commitConfig, []) ∧
      Served 2 0x21#8 1#8 .commitConfig [] (quarantinedPart (part .quorum)) ∧
      ((quarantinedPart (part .quorum)).master 2).quarantined = true) ∧
    ((votingPart.master 1).quarantined = false ∧ votingPart.session.owner? ≠ some 1) ∧
    ((votingPart.master 0).quarantined = false ∧ ownsVoting votingPart 0) ∧
    (votingPart.session.owner? = some 0 ∧ Served 1 0x21#8 1#8 .openConfig [] votingPart) ∧
    ((part .quorum).session = .none ∧ Served 1 0x21#8 1#8 .readShadow [0x10#8] (part .quorum) ∧
      0x10#8 = Target.byte .globals) :=
  ⟨⟨rfl, served _ _ _ _ _ _ rfl rfl, by decide⟩, ⟨by decide, by decide⟩, ⟨by decide, _, _, rfl⟩,
    ⟨rfl, served _ _ _ _ _ _ rfl rfl⟩, rfl, served _ _ _ _ _ _ rfl rfl, rfl⟩

theorem witness_IdleDeadlineEndsTheSession :
    (let s : State := { editing 3#16 (part .quorum) with count := 10000#32 };
      s.rstn = .high ∧ s.session = .editing 0 (part .quorum).config 3#16 ⟨0#32, 10000#16⟩ ∧
      (⟨0#32, 10000#16⟩ : Deadline).reached s.count = true) := ⟨rfl, rfl, by decide⟩

theorem witness_HeartbeatRenewsItsMaster :
    Served 3 0x21#8 1#8 .heartbeat [] State.reset ∧ (State.reset.master 3).presence = .absent :=
  ⟨served _ _ _ _ _ _ rfl rfl, by decide⟩

/-- M1 of chapter 11.2 at its presence deadline: it owns L6 and votes for an entry. -/
def absentPart : State :=
  { owned with count := 1000#32 }

theorem witness_AbsenceTakesAllThatTheMasterHolds :
    DecisionInv absentPart ∧ absentPart.rstn = .high ∧
      (absentPart.master 1).deadline = some ⟨0#32, 1000#16⟩ ∧
      (⟨0#32, 1000#16⟩ : Deadline).reached absentPart.count = true :=
  ⟨decisionInv_plain _ (by decide) (by decide) (by decide) (by decide) (by decide) rfl, rfl, by decide, by decide⟩

theorem witness_StatusRequestsReportAndClear :
    Served 0 0x21#8 1#8 .readStatus [] (part .quorum) ∧ Served 0 0x21#8 1#8 .subscribe [0xFF#8] (part .quorum) ∧
      Served 0 0x21#8 1#8 .resync [] (part .quorum) :=
  ⟨served _ _ _ _ _ _ rfl rfl, served _ _ _ _ _ _ rfl rfl, served _ _ _ _ _ _ rfl rfl⟩

/-- The last line, the last start position, the globals, and a session in each state. -/
theorem witness_ReadsReportASnapshot :
    Served 0 0x21#8 1#8 .readLines [] (part .quorum) ∧ Served 0 0x21#8 1#8 .readLine [lineByte 15] (part .quorum) ∧
      Served 0 0x21#8 1#8 .readProposals [255#8] (part .quorum) ∧
      Served 0 0x21#8 1#8 .readConfig [Target.byte .globals] (part .quorum) ∧
      (Served 0 0x21#8 1#8 .readShadow [Target.byte .globals] (editing 3#16 (part .quorum)) ∧
        ∃ d, (editing 3#16 (part .quorum)).session = .editing 0 (part .quorum).config 3#16 d) ∧
      votingPart.session = .voting 0 (part .shared).config 1#16 :=
  ⟨served _ _ _ _ _ _ rfl rfl, served _ _ _ _ _ _ rfl rfl, served _ _ _ _ _ _ rfl rfl, served _ _ _ _ _ _ rfl rfl,
    ⟨served _ _ _ _ _ _ rfl rfl, _, rfl⟩, rfl⟩

/-- The first value outside each set: line 16, target 17, kind 4, line 16, master 4, actions 0, 3, 5, 6. -/
theorem witness_ValuesOutsideTheirSetsAreRefusedAtDecode :
    requestOf (.readLine 0 0x21#8 1#8 16#8) = some (0, 0x21#8, 1#8, .readLine, [16#8]) ∧
      Served 0 0x21#8 1#8 .readLine [16#8] (part .quorum) ∧ 16 ≤ (16#8).toNat ∧ 17 ≤ (17#8).toNat ∧
      4 ≤ (4#8).toNat ∧ ¬(1 ≤ (0#8).toNat ∧ (0#8).toNat ≤ 3) ∧ ¬(4 ≤ (3#8).toNat ∧ (3#8).toNat ≤ 5) ∧
      (5#8).toNat ≠ 6 ∧ (6#8).toNat ≠ 7 :=
  ⟨rfl, served _ _ _ _ _ _ rfl rfl, by decide, by decide, by decide, by decide, by decide, by decide, by decide⟩

/-- A queue of eight LINE_CHANGED notices for L0 to L7. -/
def fullQueue : List Notice := (allLines.take 8).map fun n => .lineChanged n .high .active .direct

/-- A key the queue holds, a queue with a place, a full queue. -/
theorem witness_ANoticeTakesItsPlaceInTheQueue :
    (∃ x ∈ fullQueue, x.key = Notice.key (.lineChanged 3 .low .released .hold)) ∧
      (∀ x ∈ fullQueue.take 7, x.key ≠ Notice.key (.holdChanged .asserted)) ∧ (fullQueue.take 7).length < 8 ∧
      (∀ x ∈ fullQueue, x.key ≠ Notice.key (.holdChanged .asserted)) ∧ 8 ≤ fullQueue.length ∧
      fullQueue.length ≤ 8 ∧ distinctKeys fullQueue :=
  ⟨by decide, by decide, by decide, by decide, by decide, by decide, by unfold distinctKeys; decide⟩

/-- The payload lengths of Table 10-5, kind by kind, each notice with its kind byte in front. -/
theorem test_notice_lengths :
    ([.lineChanged 3 .high .active .direct, .proposalOpened 1#8 (.line 1) .pulse 600#16 2 2#8 5000#16,
      .proposalEnded 1#8 (.line 1) .pulse .carried 6#4, .leaseEnded 6 1 .expired,
      .feedback 3 .mismatch .high .low, .masterChanged 2 .quarantined .present true,
      .configApplied 1#16 2#16 8#16 false 15#4, .holdChanged .asserted] : List Notice).map
        (fun nt => nt.payload.length) = [4, 10, 6, 3, 4, 4, 8, 1] := by decide

/-- The row at 2000 of chapter 11.1, on a line with safe level LOW: the READY pulse on L1 is reported before
HOLD_CHANGED. -/
theorem test_hold_release_notices : holdReleaseNotices readyPart =
    [.lineChanged 1 .high .active .proposal, .proposalEnded 4#8 (.line 1) .pulse .carried 6#4,
      .holdChanged .released] := by decide

theorem witness_RequestPacketsAreReadBack :
    (Request.propose (.line 15) .pulse 600#16).wellFormed = true ∧ Request.heartbeat.wellFormed = true := by decide

/-- A retry of tag 0x31, as in chapter 11.4. -/
theorem witness_DuplicatesAreReplayed :
    (let s := linked { upPort with stored :=
        ⟨true, 0x31#8, requestCheck (part .quorum) 0x21#8 0x31#8 .heartbeat [], sevenBytes⟩ };
      requestOf (.heartbeat 0 0x21#8 0x31#8) = some (0, 0x21#8, 0x31#8, .heartbeat, []) ∧ Accepting 0 s ∧
      (s.port 0).stored.valid = true ∧ (s.port 0).stored.tag = 0x31#8 ∧
      (s.port 0).stored.check = requestCheck s 0x21#8 0x31#8 .heartbeat []) :=
  ⟨rfl, ⟨rfl, by decide, by decide, by decide⟩, by decide, by decide, by decide⟩

/-- Both slots taken, one free, a packet that waits with a free slot, and one that waits without. -/
theorem witness_ARequestWaitsForAResponseSlot :
    requestOf (.heartbeat 0 0x21#8 1#8) = some (0, 0x21#8, 1#8, .heartbeat, []) ∧
    (let s := linked { upPort with responses := [sevenBytes, sevenBytes] };
      s.rstn = .high ∧ (s.port 0).link ≠ .off ∧ (s.port 0).assembly = ⟨.idle, []⟩ ∧
      2 ≤ (s.port 0).responses.length) ∧
    (let s := linked { upPort with responses := [sevenBytes] };
      s.rstn = .high ∧ (s.port 0).link ≠ .off ∧ (s.port 0).assembly = ⟨.idle, []⟩ ∧
      (s.port 0).responses.length < 2) ∧
    (let s := linked { upPort with
        responses := [sevenBytes], assembly := ⟨.waiting, requestBytes (part .quorum) 0x21#8 1#8 .heartbeat []⟩ };
      (s.port 0).assembly = ⟨.waiting, requestBytes s 0x21#8 1#8 .heartbeat []⟩ ∧ (s.port 0).rx = [] ∧
      (s.port 0).responses.length < 2) ∧
    (let s := linked { upPort with
        responses := [sevenBytes], rx := [.data 1#8, .failChar], assembly := ⟨.waiting, sevenBytes⟩ };
      (s.port 0).assembly = ⟨.waiting, sevenBytes⟩ ∧ (s.port 0).responses.length < 2) := by decide

/-- One state for each row of the table of R131, with one place of grant left. -/
theorem witness_ReceivedCharactersAreAssembled :
    (let s := linked { upPort with outstanding := 1 };
      s.rstn = .high ∧ (s.port 0).link = .up ∧ 0 < (s.port 0).outstanding ∧ (s.port 0).rx = [] ∧
      (s.port 0).assembly.state = .idle) ∧
    ((gatheringPart ⟨.gathering, sevenBytes.take 4⟩).port 0).assembly.bytes.length < 5 ∧
    ((gatheringPart ⟨.gathering, requestBytes (part .quorum) 0x21#8 1#8 .heartbeat []⟩).port 0).assembly.bytes =
      requestBytes (gatheringPart ⟨.gathering, requestBytes (part .quorum) 0x21#8 1#8 .heartbeat []⟩)
        0x21#8 1#8 .heartbeat [] ∧
    ((gatheringPart ⟨.overlong, List.replicate 24 0#8⟩).port 0).assembly.state = .overlong ∧
    ((gatheringPart ⟨.waiting, sevenBytes⟩).port 0).assembly.state = .waiting := by decide

/-- A wrong check byte, another destination, an unknown code, a HEARTBEAT with a parameter. -/
theorem witness_BadPacketsAreDiscardedOrRefused :
    (let s := gatheringPart ⟨.gathering, [0x40#8, 0x21#8, 1#8, 0x10#8] ++ [0#8] ++ [0x55#8]⟩;
      s.rstn = .high ∧ (s.port 0).link = .up ∧ 0 < (s.port 0).outstanding ∧ (s.port 0).rx = [] ∧
      (s.port 0).assembly = ⟨.gathering, [0x40#8, 0x21#8, 1#8, 0x10#8] ++ [0#8] ++ [0x55#8]⟩ ∧
      (s.port 0).responses.length < 2 ∧ 0x55#8 ≠ crc8 ([0x40#8, 0x21#8, 1#8, 0x10#8] ++ [0#8])) ∧
    0x41#8 ≠ (part .quorum).linkAddress ∧ 0x40#8 = (part .quorum).linkAddress ∧
    ((part .quorum).port 0).stored.valid = false ∧
    RequestCode.heartbeat.byte = 0x10#8 ∧ [0#8].length ≠ RequestCode.heartbeat.paramLength := by decide

/-- No code of Table 10-1 is 0x99. -/
theorem witness_unknown_code : (∀ x : RequestCode, x.byte ≠ 0x99#8) ∧ ∀ row ∈ table101, row.2.1 ≠ 0x99#8 :=
  ⟨fun x => by cases x <;> decide, by decide⟩

/-- Each link state, and a credit of 56, the most at which a GRANT is in order. -/
theorem witness_TheLinkStartsUp :
    State.reset.rstn = .high ∧ (State.reset.port 0).link = .quiet ∧
      ((linked { silentPort with link := .listen }).port 0).link = .listen ∧
      ((linked { upPort with link := .handshake }).port 0).link = .handshake ∧
      ((linked { upPort with credit := 56 }).port 0).credit ≤ 56 ∧ ((linked upPort).port 0).link = .up ∧
      ((linked silentPort).port 0).link = .off := by decide

/-- A LISTEN and a HANDSHAKE port, a credit error amid a notice, and a waiting packet with a cut-off one behind
it whose next character finds no grant. -/
theorem witness_ErrorsTakeThePortToQuiet :
    ((linked { silentPort with link := .listen }).port 0).link = .listen ∧
    (let s := linked { upPort with link := .handshake, credit := 0, assembly := ⟨.gathering, [1#8]⟩ };
      s.rstn = .high ∧ (s.port 0).link = .handshake) ∧
    (let s := linked { upPort with credit := 57, tx := some (.notice sevenBytes 3), assembly := ⟨.overlong, sevenBytes⟩ };
      (s.port 0).link = .up ∧ (s.port 0).assembly.state ≠ .waiting ∧ 56 < (s.port 0).credit) ∧
    (let s := linked { upPort with outstanding := 0, rx := [.data 1#8], assembly := ⟨.waiting, sevenBytes⟩ };
      (s.port 0).link = .up ∧ (s.port 0).outstanding = 0 ∧ (s.port 0).assembly = ⟨.waiting, sevenBytes⟩) := by decide

/-- An owed GRANT at exactly eight free places, none at seven; each packet; no credit. -/
theorem witness_TheTransmitterChooses :
    (linked upPort).rstn = .high ∧ owed { upPort with outstanding := 24 } ∧ ¬owed { upPort with outstanding := 25 } ∧
      0 < upPort.credit ∧ sevenBytes[6]? = some 7#8 ∧
      (let s := (linked upPort).setStat 0 ⟨0#11, 1#6, [.holdChanged .asserted], 17#8⟩;
        (s.port 0).tx = none ∧ (s.port 0).responses = [] ∧ (s.stat 0).queue = [.holdChanged .asserted] ∧
        (s.master 0).lastSource = some 0x21#8) :=
  ⟨rfl, by unfold owed; decide, by unfold owed; decide, by decide, by decide, by decide⟩

/-- A response and a notice with every byte sent; a packet with no credit. -/
theorem witness_TheEndOfAPacketFreesItsSlot :
    (let r : Port := { upPort with tx := some (.response 7), responses := [sevenBytes], credit := 1 };
      r.link = .up ∧ ¬owed r ∧ 0 < r.credit ∧ r.responses = [sevenBytes] ∧ sevenBytes.length ≤ 7) ∧
    ({ upPort with tx := some (.notice sevenBytes 7) } : Port).tx = some (.notice sevenBytes 7) ∧
    ({ upPort with credit := 0 } : Port).credit = 0 ∧
    (let r : Port := { upPort with tx := some (.response 6), responses := [sevenBytes] };
      r.responses = [sevenBytes] ∧ r.tx = some (.response 6) ∧ 6 < sevenBytes.length) :=
  ⟨⟨rfl, by unfold owed; decide, by decide, rfl, by decide⟩, rfl, rfl, rfl, rfl, by decide⟩

/-- A HEARTBEAT that waits in the queue of commands. -/
def queued (s : State) : State := { s with pending := [.heartbeat 0 0x21#8 1#8] }

theorem witness_StepKeepsThePortLaws :
    FlowInv (queued State.reset) ∧ LinkInv (queued State.reset) ∧
      ∃ t, step (queued State.reset) = .next t :=
  ⟨fun p => ⟨by revert p; decide, by revert p; decide, by revert p; decide, by revert p; decide, by revert p; decide⟩,
    fun p => ⟨by revert p; decide, by revert p; decide, by revert p; decide, by revert p; decide⟩, _, rfl⟩

theorem witness_StepKeepsTheQueuesAndTheMasterRecords :
    QueueInv (queued (part .quorum)) ∧ MasterInv (queued (part .quorum)) ∧
      ∃ t, step (queued (part .quorum)) = .next t :=
  ⟨by unfold QueueInv distinctKeys; decide, fun m => ⟨by revert m; decide, by revert m; decide, by revert m; decide⟩, _, rfl⟩

theorem witness_StepKeepsTheLineLaws :
    LineInv (queued readyPart) ∧ ∃ t, step (queued readyPart) = .next t :=
  ⟨(decisionInv_plain (queued readyPart) (by decide) (by decide) (by decide) (by decide) (by decide) rfl).lines, _, rfl⟩

theorem witness_StepKeepsTheDecisionState :
    DecisionInv (queued readyPart) ∧ ∃ t, step (queued readyPart) = .next t :=
  ⟨decisionInv_plain _ (by decide) (by decide) (by decide) (by decide) (by decide) rfl, _, rfl⟩

end Sys2Proof.Tests
end

section
/-! PROOFS. The millisecond count and the deadlines of the time base (R1), and what a result reports of a
deadline (R17, R52, R54, R75). -/

namespace Sys2Proof.Machine

open Sys2Proof

/-! ### The commands that set the count -/

theorem exec_millisecondCountAdvance (s : State) :
    exec .millisecondCountAdvance s = .next { s with count := s.count + 1#32 } :=
  rfl

theorem exec_rstnReleased (cfgsel : Level) (adrs : Byte) (holdPin : Level) (fbkPins : W16) (s : State) :
    exec (.rstnReleased cfgsel adrs holdPin fbkPins) s =
      .next { State.afterPinReset cfgsel adrs holdPin fbkPins with pending := s.pending } :=
  rfl

@[simp] theorem State.afterPinReset_count (cfgsel : Level) (adrs : Byte) (holdPin : Level) (fbkPins : W16) :
    (State.afterPinReset cfgsel adrs holdPin fbkPins).count = 0#32 := rfl

/-! ### What clearing lines leaves unchanged -/

/-- The report of a lease end writes the status records alone (R66). -/
theorem leaseEndReport_frame (n : LineId) (m : MasterId) (reason : LeaseReason) (s : State) :
    leaseEndReport n m reason s = { s with status := (leaseEndReport n m reason s).status } := by
  unfold leaseEndReport; split <;> rfl

/-- A line clear writes the lines and the status records alone (R9). -/
theorem lineClear_frame (n : LineId) (reason : LeaseReason) (cause : Cause) (before : Level) (s : State) :
    lineClear n reason cause before s =
      { s with lines := (lineClear n reason cause before s).lines,
               status := (lineClear n reason cause before s).status } := by
  unfold lineClear
  rw [reportChange_frame]
  split
  · rfl
  · rw [leaseEndReport_frame]; rfl

/-- The line clears of a commanded restart write the lines and the status records alone (R19). -/
theorem foldl_restartLine_frame (ns : List LineId) (s : State) :
    ns.foldl restartLine s =
      { s with lines := (ns.foldl restartLine s).lines, status := (ns.foldl restartLine s).status } := by
  induction ns generalizing s with
  | nil => rfl
  | cons n ns ih =>
    rw [List.foldl_cons, ih, restartLine, lineClear_frame]

/-- A commanded restart leaves the millisecond count as it is (R1). -/
@[simp] theorem commandedRestart_count (s : State) : (commandedRestart s).count = s.count := by
  unfold commandedRestart
  rw [foldl_restartLine_frame]

/-! ### Deadlines -/

/-- A deadline is reached when the count has advanced by its duration since its setting (R1). -/
theorem Deadline.reached_iff (d : Deadline) (now : W32) :
    d.reached now = true ↔ d.span.toNat ≤ (now - d.setAt).toNat := by
  simp [Deadline.reached]

/-- A reached deadline that is not yet taken is reported as 1 ms (R17, R52, R54, R75). -/
theorem Deadline.remaining_of_reached {d : Deadline} {now : W32} (h : d.reached now = true) :
    d.remaining now = 1#16 := by
  simp [Deadline.remaining, h]

/-- Before it is reached a deadline has left what of its duration has not elapsed: the difference of the two
counts wraps nowhere, because a duration is below 2^16. -/
theorem Deadline.remaining_toNat {d : Deadline} {now : W32} (h : (now - d.setAt).toNat < d.span.toNat) :
    (d.remaining now).toNat = d.span.toNat - (now - d.setAt).toNat := by
  have not_reached : ¬ d.reached now = true := by
    rw [Deadline.reached_iff]; omega
  have left_eq : d.at - now = d.span.setWidth 32 - (now - d.setAt) := by
    unfold Deadline.at; bv_omega
  have span_wide : (d.span.setWidth 32).toNat = d.span.toNat := by
    rw [BitVec.toNat_setWidth]; omega
  have left_toNat : (d.at - now).toNat = d.span.toNat - (now - d.setAt).toNat := by
    rw [left_eq, BitVec.toNat_sub_of_le (BitVec.le_def.mpr (by omega)), span_wide]
  rw [Deadline.remaining, if_neg not_reached, BitVec.toNat_setWidth, left_toNat]
  exact Nat.mod_eq_of_lt (by omega)

@[simp] theorem remainingOf_none (now : W32) : remainingOf none now = 0#16 := rfl

@[simp] theorem remainingOf_some (d : Deadline) (now : W32) :
    remainingOf (some d) now = d.remaining now := rfl

/-- Settles O6: the count by the two commands that set it and the frame of a commanded restart, the deadlines by
`Deadline.reached_iff` and the two cases of `Deadline.remaining`. -/
theorem theMillisecondCount : Obligations.TheMillisecondCount := by
  unfold Obligations.TheMillisecondCount
  refine ⟨exec_millisecondCountAdvance, ?wraps, ?released, commandedRestart_count,
    ?reached, ?left, ?due, ?reported⟩
  case wraps =>
    intro s full
    exact ⟨_, exec_millisecondCountAdvance s, by simp [full]⟩
  case released =>
    intro cfgsel adrs holdPin fbkPins s
    exact ⟨_, exec_rstnReleased cfgsel adrs holdPin fbkPins s, State.afterPinReset_count cfgsel adrs holdPin fbkPins⟩
  case reached => exact fun s d now => Deadline.reached_iff (s.deadlineIn d) now
  case left => exact fun s d now pending => Deadline.remaining_toNat (d := s.deadlineIn d) pending
  case due =>
    intro s d now due
    exact Deadline.remaining_of_reached ((Deadline.reached_iff (s.deadlineIn d) now).mpr due)
  case reported => exact fun now => ⟨remainingOf_none now, fun d => remainingOf_some d now⟩

end Sys2Proof.Machine
end

section
/-! PROOFS. The level on the output pins (R5), and the HOLD asserted event (R13) with the reports that both HOLD
events make line by line. -/

namespace Sys2Proof.Machine

open Sys2Proof

/-! ### The output pin (R5) -/

/-- The pin of a running part carries the driven level. -/
theorem State.pinLevel_running (s : State) (n : LineId) (running : s.rstn = .high) :
    s.pinLevel n = s.driven n := by
  rw [State.pinLevel, running]

/-- The qualified HOLD level has two values. -/
theorem HoldLevel.released_iff (h : HoldLevel) : h = .released ↔ h ≠ .asserted := by
  cases h <;> decide

/-- Settles O7: the pin of a running part carries the driven level, whose definition says the three conditions. -/
theorem thePinCarriesTheDrivenLevel : Obligations.ThePinCarriesTheDrivenLevel := by
  intro s n running
  rw [State.pinLevel_running s n running, State.driven_eq]
  simp only [drivenLevel, HoldLevel.released_iff]

/-! ### Reporting a list of lines (R13 step 2, R15 step 1) -/

/-- Settling that starts twice at one count has started once. -/
@[simp] theorem Line.settleOnChange_idem (now : W32) (l : Line) :
    (l.settleOnChange now).settleOnChange now = l.settleOnChange now := by
  by_cases check : l.cfg.feedback = true <;> simp [Line.settleOnChange, check]

/-- Settling leaves the commanded state. -/
@[simp] theorem Line.settleOnChange_commanded (now : W32) (l : Line) :
    (l.settleOnChange now).commanded = l.commanded := by
  unfold Line.settleOnChange; split <;> rfl

@[simp] theorem reportChange_count (s : State) (n : LineId) (before : Level) (cause : Cause) :
    (reportChange n before cause s).count = s.count := by
  rw [reportChange_frame]

@[simp] theorem reportChange_hold (s : State) (n : LineId) (before : Level) (cause : Cause) :
    (reportChange n before cause s).hold = s.hold := by
  rw [reportChange_frame]

@[simp] theorem reportChange_masters (s : State) (n : LineId) (before : Level) (cause : Cause) :
    (reportChange n before cause s).masters = s.masters := by
  rw [reportChange_frame]

/-- What a report of line n leaves of any line (R7, R76). -/
theorem reportChange_anyLine (s : State) (n k : LineId) (before : Level) (cause : Cause) :
    (reportChange n before cause s).line k =
      if k = n ∧ s.driven n ≠ before then (s.line k).settleOnChange s.count else s.line k := by
  by_cases same : k = n
  · subst same
    rw [reportChange_line]
    by_cases kept : s.driven k = before <;> simp [kept]
  · rw [reportChange_other _ _ _ _ _ same]
    simp [same]

/-- A report changes no line's commanded state. -/
@[simp] theorem reportChange_commanded (s : State) (n k : LineId) (before : Level) (cause : Cause) :
    ((reportChange n before cause s).line k).commanded = (s.line k).commanded := by
  rw [reportChange_anyLine]; split <;> simp

/-- A report changes no driven level: settling is not read by R5. -/
@[simp] theorem reportChange_driven (s : State) (n k : LineId) (before : Level) (cause : Cause) :
    (reportChange n before cause s).driven k = s.driven k := by
  rw [State.driven_eq, State.driven_eq, reportChange_hold, reportChange_anyLine]
  split <;> simp

/-- `told` reads the presence of the masters alone. -/
theorem told_congr {s t : State} (h : t.masters = s.masters) (m : MasterId) (notices : List Notice)
    (r : StatusRecord) : told t m notices r = told s m notices r := by
  have same_presence (k : MasterId) : (t.master k).presence = (s.master k).presence := by
    simp only [State.master, h]
  simp only [told, noticed_congr same_presence]

/-- The lines of a list compared with their levels before, one after another. -/
def reportChanges (before : LineId → Level) (cause : Cause) (ns : List LineId) (s : State) : State :=
  ns.foldl (fun t n => reportChange n (before n) cause t) s

/-- The HOLD events report all lines in ascending order (R13 step 2, R15 step 1). -/
theorem recomputeDriven_eq (before : LineId → Level) (s : State) :
    recomputeDriven before s = reportChanges before .hold allLines s := rfl

/-- The notices of a list of lines: one LINE_CHANGED for each whose driven level differs from that before. -/
def changeNotices (s : State) (before : LineId → Level) (cause : Cause) (ns : List LineId) : List Notice :=
  (ns.filter fun n => s.driven n ≠ before n).map fun n =>
    .lineChanged n (s.driven n) (s.line n).commanded cause

theorem changeNotices_cons (s : State) (before : LineId → Level) (cause : Cause) (n : LineId)
    (ns : List LineId) :
    changeNotices s before cause (n :: ns) =
      if s.driven n = before n then changeNotices s before cause ns
      else .lineChanged n (s.driven n) (s.line n).commanded cause :: changeNotices s before cause ns := by
  by_cases kept : s.driven n = before n <;> simp [changeNotices, kept]

theorem reportChanges_frame (before : LineId → Level) (cause : Cause) (ns : List LineId) (s : State) :
    reportChanges before cause ns s =
      { s with lines := (reportChanges before cause ns s).lines,
               status := (reportChanges before cause ns s).status } := by
  induction ns generalizing s with
  | nil => rfl
  | cons n ns ih =>
    rw [reportChanges, List.foldl_cons, ← reportChanges, ih, reportChange_frame]

@[simp] theorem reportChanges_masters (before : LineId → Level) (cause : Cause) (ns : List LineId)
    (s : State) : (reportChanges before cause ns s).masters = s.masters := by
  rw [reportChanges_frame]

/-- Reports change no driven level. -/
@[simp] theorem reportChanges_driven (before : LineId → Level) (cause : Cause) (ns : List LineId) (s : State)
    (k : LineId) : (reportChanges before cause ns s).driven k = s.driven k := by
  induction ns generalizing s with
  | nil => rfl
  | cons n ns ih =>
    rw [reportChanges, List.foldl_cons, ← reportChanges, ih, reportChange_driven]

/-- Each line of the list whose driven level differs from that before settles anew (R7, R76). -/
theorem reportChanges_line (before : LineId → Level) (cause : Cause) (ns : List LineId) (s : State)
    (k : LineId) :
    (reportChanges before cause ns s).line k =
      if k ∈ ns ∧ s.driven k ≠ before k then (s.line k).settleOnChange s.count else s.line k := by
  induction ns generalizing s with
  | nil => simp [reportChanges]
  | cons n ns ih =>
    rw [reportChanges, List.foldl_cons, ← reportChanges, ih, reportChange_driven, reportChange_count,
      reportChange_anyLine]
    by_cases same : k = n
    · subst same
      by_cases kept : s.driven k = before k <;> simp [kept]
    · simp [same]

/-- The changed lines are reported in the order of the list (R6, R8). -/
theorem reportChanges_stat (before : LineId → Level) (cause : Cause) (ns : List LineId) (s : State)
    (m : MasterId) :
    (reportChanges before cause ns s).stat m = told s m (changeNotices s before cause ns) (s.stat m) := by
  induction ns generalizing s with
  | nil => rfl
  | cons n ns ih =>
    have same_notices :
        changeNotices (reportChange n (before n) cause s) before cause ns =
          changeNotices s before cause ns := by
      simp only [changeNotices, reportChange_driven, reportChange_commanded]
    rw [reportChanges, List.foldl_cons, ← reportChanges, ih, same_notices,
      told_congr (reportChange_masters ..), reportChange_status, changeNotices_cons]
    split <;> rfl

theorem mem_allLines (n : LineId) : n ∈ allLines := by
  revert n; decide

/-! ### The HOLD asserted event (R13) -/

/-- The event is due when the raw input stands asserted and the qualified level is released (R11). -/
theorem exec_holdAsserted (s : State) (running : s.rstn = .high) (raw : s.hold.raw = .high)
    (qualified : s.hold.qualified = .released) :
    exec .holdAsserted s = .next (holdAssertedEvent s) := by
  show Host.Outcome.next (whenRunning _ s) = _
  simp only [whenRunning, running, raw, qualified, and_self, if_true]

/-- The part after step 1 of R13 and under the new qualified level: every pulse is ended, no line reported. -/
def unpulsedPart (s : State) : State := setQualified .asserted (cancelPulses s)

@[simp] theorem unpulsedPart_line (s : State) (n : LineId) :
    (unpulsedPart s).line n = unpulsed (s.line n) := get_eachRecord _ _ _

/-- Step 1 of R13 writes the lines alone, the qualified level the HOLD conditioner alone. -/
theorem unpulsedPart_frame (s : State) :
    unpulsedPart s =
      { s with hold := { s.hold with qualified := .asserted, measuring := none },
               lines := (unpulsedPart s).lines } := by
  simp only [unpulsedPart, setQualified, cancelPulses]

@[simp] theorem unpulsedPart_hold (s : State) :
    (unpulsedPart s).hold = { s.hold with qualified := .asserted, measuring := none } := by
  rw [unpulsedPart_frame]

@[simp] theorem unpulsedPart_count (s : State) : (unpulsedPart s).count = s.count := by
  rw [unpulsedPart_frame]

@[simp] theorem unpulsedPart_masters (s : State) : (unpulsedPart s).masters = s.masters := by
  rw [unpulsedPart_frame]

@[simp] theorem unpulsedPart_status (s : State) : (unpulsedPart s).status = s.status := by
  rw [unpulsedPart_frame]

@[simp] theorem unpulsedPart_stat (s : State) (m : MasterId) : (unpulsedPart s).stat m = s.stat m := by
  simp only [State.stat, unpulsedPart_status]

/-- Ending a pulse leaves the configuration part. -/
@[simp] theorem unpulsed_cfg (l : Line) : (unpulsed l).cfg = l.cfg := by
  unfold unpulsed; split <;> rfl

/-- Every line is driven safe while HOLD is asserted (R5, R13). -/
@[simp] theorem unpulsedPart_driven (s : State) (n : LineId) :
    (unpulsedPart s).driven n = (s.line n).cfg.safe := by
  rw [State.driven_eq, unpulsedPart_hold, drivenLevel_held, unpulsedPart_line, unpulsed_cfg]

/-- The event in its steps: pulses, reports, HOLD_SEEN, HOLD_CHANGED (R13). -/
theorem holdAssertedEvent_eq (s : State) :
    holdAssertedEvent s =
      raise (.holdChanged .asserted)
        (setFlagAll .holdSeen (reportChanges s.driven .hold allLines (unpulsedPart s))) := rfl

/-- The event writes the HOLD conditioner, the lines and the status records alone. -/
theorem holdAssertedEvent_frame (s : State) :
    holdAssertedEvent s =
      { s with hold := { s.hold with qualified := .asserted, measuring := none },
               lines := (holdAssertedEvent s).lines, status := (holdAssertedEvent s).status } := by
  have started := unpulsedPart_frame s
  have reported := reportChanges_frame s.driven .hold allLines (unpulsedPart s)
  rw [holdAssertedEvent_eq]
  generalize reportChanges s.driven .hold allLines (unpulsedPart s) = t at reported ⊢
  generalize unpulsedPart s = x at started reported
  rw [reported, started]; rfl

/-- The lines that step 2 of R13 reports are those not driven safe before the event. -/
theorem changeNotices_unpulsedPart (s : State) :
    changeNotices (unpulsedPart s) s.driven .hold allLines =
      (allLines.filter fun n => s.driven n ≠ (s.line n).cfg.safe).map fun n =>
        .lineChanged n (s.line n).cfg.safe (unpulsed (s.line n)).commanded .hold := by
  simp only [changeNotices, unpulsedPart_driven, unpulsedPart_line, ne_comm]

theorem holdAssertedEvent_driven (s : State) (n : LineId) :
    (holdAssertedEvent s).driven n = (s.line n).cfg.safe := by
  rw [holdAssertedEvent_eq, State.driven_eq, raise_hold, setFlagAll_hold, raise_line, setFlagAll_line,
    ← State.driven_eq, reportChanges_driven, unpulsedPart_driven]

/-- What the event leaves of a line record. -/
theorem holdAssertedEvent_line (s : State) (n : LineId) :
    (holdAssertedEvent s).line n =
      if s.driven n ≠ (s.line n).cfg.safe then settling s.count (unpulsed (s.line n))
      else unpulsed (s.line n) := by
  rw [holdAssertedEvent_eq, raise_line, setFlagAll_line, reportChanges_line]
  simp only [mem_allLines, true_and, unpulsedPart_driven, unpulsedPart_line, unpulsedPart_count,
    ne_comm (b := s.driven n)]
  rfl

/-- What the event leaves of a status record: the lines' notices, then HOLD_SEEN, then HOLD_CHANGED. -/
theorem holdAssertedEvent_stat (s : State) (m : MasterId) :
    (holdAssertedEvent s).stat m =
      noticed s m (.holdChanged .asserted)
        ((holdNotices s m (fun n => s.driven n ≠ (s.line n).cfg.safe)
          (fun n => .lineChanged n (s.line n).cfg.safe (unpulsed (s.line n)).commanded .hold)
          (s.stat m)).setFlag .holdSeen) := by
  have same_presence (k : MasterId) :
      ((setFlagAll .holdSeen (reportChanges s.driven .hold allLines (unpulsedPart s))).master k).presence =
        (s.master k).presence := by
    rw [setFlagAll_master, State.master, reportChanges_masters, unpulsedPart_masters, State.master]
  rw [holdAssertedEvent_eq, raise_noticed, noticed_congr same_presence, setFlagAll_stat,
    reportChanges_stat, changeNotices_unpulsedPart, unpulsedPart_stat, told_congr (unpulsedPart_masters s)]
  rfl

/-- Settles O18: the event in its steps, with the reports of the lines by induction on their list. -/
theorem holdAssertedDrivesEveryLineSafe : Obligations.HoldAssertedDrivesEveryLineSafe := by
  intro s running raw qualified
  refine ⟨holdAssertedEvent s, exec_holdAsserted s running raw qualified, ?frame,
    holdAssertedEvent_driven s, holdAssertedEvent_line s, holdAssertedEvent_stat s⟩
  case frame =>
    rw [← raw]
    exact holdAssertedEvent_frame s

end Sys2Proof.Machine
end

section
/-! PROOFS. The five reads (R16, R17, R52, R127, R128): the bytes of their results, and what they leave. -/

namespace Sys2Proof.Machine

open Sys2Proof

/-! ### Bytes that hold several fields -/

/-- A field shifted beyond the fields below it adds its value there. -/
theorem toNat_or_shiftLeft {lo hi : Byte} (k : Nat) (below : lo.toNat < 2 ^ k)
    (fits : 2 ^ k * hi.toNat < 256) : (lo ||| (hi <<< k)).toNat = lo.toNat + 2 ^ k * hi.toNat := by
  have shifted : (hi <<< k).toNat = 2 ^ k * hi.toNat := by
    rw [BitVec.toNat_shiftLeft, Nat.shiftLeft_eq, mul_comm]
    exact Nat.mod_eq_of_lt fits
  rw [BitVec.or_comm, BitVec.toNat_or, shifted, ← Nat.two_pow_add_eq_or_of_lt below, add_comm]

/-- A byte is the byte of its value. -/
theorem eq_byteOf {b : Byte} {x : Nat} (value : b.toNat = x) : b = byteOf x := by
  rw [← value, byteOf, BitVec.ofNat_toNat, BitVec.setWidth_eq]

theorem toNat_levelByte (d : Level) : (levelByte d).toNat = if d = .high then 1 else 0 := by
  cases d <;> rfl

theorem Commanded.toNat_byte (c : Commanded) : c.byte.toNat = if c = .active then 1 else 0 := by
  cases c <;> rfl

theorem EntryState.toNat_byte (e : EntryState) : e.byte.toNat = if e = .ready then 1 else 0 := by
  cases e <;> rfl

theorem FeedbackState.toNat_byte_lt (f : FeedbackState) : f.byte.toNat < 4 := by
  cases f <;> decide

theorem Policy.toNat_byte_lt (p : Policy) : p.byte.toNat < 4 := by
  cases p <;> decide

theorem Subject.toNat_kindByte_lt (sub : Subject) : sub.kindByte.toNat < 4 := by
  cases sub <;> simp [Subject.kindByte]

theorem toNat_masterByte (m : MasterId) : (masterByte m).toNat = m.val := by
  simp [masterByte, byteOf]; omega

theorem toNat_setByte (set : BitVec 4) : (setByte set).toNat = set.toNat := by
  simp [setByte]; omega

theorem HoldLevel.byte_eq (h : HoldLevel) : h.byte = if h = .asserted then 1#8 else 0#8 := by
  cases h <;> rfl

/-- A yes/no item that says whether two records differ. -/
theorem boolByte_ne {α : Type} [DecidableEq α] (a b : α) :
    boolByte (decide (a ≠ b)) = if a = b then 0#8 else 1#8 := by
  by_cases same : a = b <;> simp [boolByte, same]

/-! ### The results of the reads -/

/-- The byte of READ_LINES for a line is the sum of its four fields (R16). -/
theorem lineSummary_eq (s : State) (n : LineId) :
    lineSummary s n = byteOf
      ((if s.driven n = .high then 1 else 0) + (if (s.line n).commanded = .active then 2 else 0) +
        4 * (s.line n).feedback.byte.toNat + 16 * (s.line n).cfg.policy.byte.toNat) := by
  have driven := toNat_levelByte (s.driven n)
  have commanded := (s.line n).commanded.toNat_byte
  have feedback := (s.line n).feedback.toNat_byte_lt
  have policy := (s.line n).cfg.policy.toNat_byte_lt
  have driven_lt : (levelByte (s.driven n)).toNat < 2 := by split at driven <;> omega
  have commanded_lt : (s.line n).commanded.byte.toNat < 2 := by split at commanded <;> omega
  have two := toNat_or_shiftLeft (hi := (s.line n).commanded.byte) 1 driven_lt (by omega)
  have three := toNat_or_shiftLeft (hi := (s.line n).feedback.byte) 2 (two.trans_lt (by omega)) (by omega)
  have four := toNat_or_shiftLeft (hi := (s.line n).cfg.policy.byte) 4 (three.trans_lt (by omega)) (by omega)
  apply eq_byteOf
  rw [lineSummary, four, three, two, driven, commanded]
  split <;> split <;> omega

/-- The READ_LINES result (R16). -/
theorem readLinesResult_eq (s : State) :
    readLinesResult s =
      (if s.hold.qualified = .asserted then 1#8 else 0#8) ::
        allLines.map fun n => byteOf
          ((if s.driven n = .high then 1 else 0) + (if (s.line n).commanded = .active then 2 else 0) +
            4 * (s.line n).feedback.byte.toNat + 16 * (s.line n).cfg.policy.byte.toNat) := by
  simp only [readLinesResult, HoldLevel.byte_eq, funext (lineSummary_eq s)]

/-- The byte of an entry summary that holds the entry's state above its subject kind (R52). -/
theorem stateKindByte_eq (e : Entry) :
    (e.state.byte <<< 7) ||| e.subject.kindByte =
      byteOf ((if e.state = .ready then 128 else 0) + e.subject.kindByte.toNat) := by
  have state := e.state.toNat_byte
  have kind := e.subject.toNat_kindByte_lt
  apply eq_byteOf
  rw [BitVec.or_comm, toNat_or_shiftLeft 7 (by omega) (by split at state <;> omega), state]
  split <;> omega

/-- The byte of an entry summary that holds the opener above the voter set (R52). -/
theorem openerVotersByte_eq (e : Entry) :
    (masterByte e.opener <<< 4) ||| setByte e.voters = byteOf (16 * e.opener.val + e.voters.toNat) := by
  have opener := toNat_masterByte e.opener
  have voters := toNat_setByte e.voters
  apply eq_byteOf
  rw [BitVec.or_comm, toNat_or_shiftLeft 4 (by omega) (by omega), opener, voters]
  omega

/-- An entry summary (R52). -/
theorem entrySummary_eq (now : W32) (e : Entry) :
    entrySummary now e =
      [e.id, byteOf ((if e.state = .ready then 128 else 0) + e.subject.kindByte.toNat),
        e.subject.indexByte, e.action.byte] ++ wordBytes e.argument ++
      [byteOf (16 * e.opener.val + e.voters.toNat), e.required] ++ wordBytes (e.deadline.remaining now) := by
  rw [entrySummary, stateKindByte_eq, openerVotersByte_eq]

/-- The READ_PROPOSALS answer: how many entries follow, how many are left, and up to four summaries (R52). -/
theorem reqReadProposals_eq (start : Byte) (s : State) :
    reqReadProposals start s =
      (s, ⟨.done,
        [byteOf (min 4 (s.table.length - start.toNat)), byteOf (s.table.length - start.toNat - 4)] ++
          (((s.table.drop start.toNat).take 4).map (entrySummary s.count)).flatten⟩) := by
  have left (len : Nat) : len - min 4 len = len - 4 := by omega
  simp only [reqReadProposals, Config.summariesPerRead, List.length_take, List.length_drop, left]

/-- The READ_SHADOW result, by its target (R128). -/
theorem shadowResult_eq (s : State) (o : MasterId) (sh : Configuration) (rev : W16) (t : Target) :
    shadowResult s o sh rev t =
      [s.session.stateByte, masterByte o] ++ wordBytes rev ++
        match t with
        | .line n => [lineByte n, if sh.line n = s.config.line n then 0#8 else 1#8] ++ (sh.line n).bytes
        | .globals => [0x10#8, if sh.globals = s.config.globals then 0#8 else 1#8] ++ sh.globals.bytes := by
  cases t with
  | line n =>
    simp only [shadowResult, targetDiffers, boolByte_ne, Target.byte, Configuration.block, List.append_assoc]
  | globals =>
    simp only [shadowResult, targetDiffers, boolByte_ne, Target.byte, Configuration.block, List.append_assoc]

/-! ### Decoding a target -/

@[simp] theorem targetOf_byte (t : Target) : targetOf t.byte = some t := by
  cases t with
  | line n => simp [targetOf, Target.byte]
  | globals => rfl

@[simp] theorem onTarget_byte (t : Target) (f : Target → Request) : onTarget t.byte f = .ok (f t) := by
  simp [onTarget]

/-! ### What the reads do -/

/-- A read that its unit answers with a result of the state leaves the state as it is. -/
theorem requestEvent_read (s : State) (p : PortId) (src tag : Byte) (code : RequestCode) (params : List Byte)
    (q : Request) (result : State → List Byte) (served : Served p src tag code params s)
    (length : params.length = code.paramLength) (decoded : decodeFields code params = .ok q)
    (answered : ∀ r admitted, dispatch p admitted q r = (r, ⟨.done, result r⟩)) :
    RequestTaken p src tag code params NoEffect (fun r _ => ⟨.done, result r⟩) s
      (requestEvent p src tag code params s) :=
  requestEvent_refused s p src tag code params q .done result served length decoded (answered _ _) nofun

/-- A renewal leaves the session. -/
theorem Renewed.session {p : PortId} {src : Byte} {s t : State} (h : Renewed p src s t) :
    t.session = s.session := by rw [h.frame]

/-- What a request has done may be said in other words that mean the same after its renewal. -/
theorem RequestTaken.imp {p : PortId} {src tag : Byte} {code : RequestCode} {params : List Byte}
    {effect effect' : State → State → Prop} {ans ans' : State → State → Answer} {s u : State}
    (taken : RequestTaken p src tag code params effect ans s u)
    (same : ∀ r t, Renewed p src s r → effect r t → effect' r t ∧ ans r t = ans' r t) :
    RequestTaken p src tag code params effect' ans' s u := by
  obtain ⟨r, t, renewed, effected, answered⟩ := taken
  obtain ⟨effected', same_answer⟩ := same r t renewed effected
  exact ⟨r, t, renewed, effected', same_answer ▸ answered⟩

section
variable {s : State} {o : MasterId} {sh : Configuration} {rev : W16}

/-- The idle deadline of an EDITING session is renewed by its owner alone (R110). -/
theorem touchSession_editing {d : Deadline} (editing : s.session = .editing o sh rev d) (m : MasterId) :
    touchSession m s = if o = m then s.setSession (.editing o sh rev ⟨s.count, 10000#16⟩) else s := by
  rw [touchSession, editing]; rfl

/-- A VOTING session has no idle deadline to renew (R109). -/
theorem touchSession_voting (voting : s.session = .voting o sh rev) (m : MasterId) :
    touchSession m s = s := by
  rw [touchSession, voting]

/-- Renewing the idle deadline writes the session alone (R110). -/
theorem touchSession_frame (m : MasterId) (s : State) :
    touchSession m s = { s with session := (touchSession m s).session } := by
  unfold touchSession
  split
  · split <;> rfl
  · rfl

/-- READ_SHADOW with a session gives its result, and renews the idle deadline (R110, R128). -/
theorem reqReadShadow_eq
    (standing : (∃ d, s.session = .editing o sh rev d) ∨ s.session = .voting o sh rev)
    (m : MasterId) (t : Target) :
    reqReadShadow m t s = (touchSession m s, ⟨.done, shadowResult s o sh rev t⟩) := by
  obtain ⟨d, editing⟩ | voting := standing
  · rw [reqReadShadow, editing]
  · rw [touchSession_voting voting, reqReadShadow, voting]

/-- The READ_SHADOW event with a session (R110, R128). -/
theorem requestEvent_readShadow {p : PortId} {src tag : Byte} {t : Target}
    (standing : (∃ d, s.session = .editing o sh rev d) ∨ s.session = .voting o sh rev)
    (served : Served p src tag .readShadow [t.byte] s) :
    RequestTaken p src tag .readShadow [t.byte] (fun r x => x = touchSession p r)
      (fun r _ => ⟨.done, shadowResult r o sh rev t⟩) s
      (requestEvent p src tag .readShadow [t.byte] s) := by
  rw [← renew_session s p src] at standing
  refine requestEvent_taken_of_ports s p src tag .readShadow [t.byte] (.readShadow t)
    (touchSession p (renew p src s)) _ _ _ served rfl ?decoded
    (reqReadShadow_eq standing p t) nofun ?ports ?address rfl rfl
  case decoded => rw [decodeFields_readShadow, onTarget_byte]
  case ports => rw [touchSession_frame, renew_ports]
  case address => rw [touchSession_frame, renew_linkAddress]

end

/-- Settles O43: each read by its unit's answer, whose bytes are those of section 10.3. -/
theorem readsReportASnapshot : Obligations.ReadsReportASnapshot := by
  intro p src tag s
  refine ⟨?readLines, ?readLine, ?readProposals, ?readConfig, ?readShadow⟩
  case readLines =>
    intro served
    refine ⟨_, rfl, ?_⟩
    simp only [← readLinesResult_eq]
    exact requestEvent_read s p src tag .readLines [] .readLines _ served rfl rfl fun _ _ => rfl
  case readLine =>
    intro n served
    refine ⟨_, rfl, ?_⟩
    refine requestEvent_read s p src tag .readLine [lineByte n] (.readLine n) _ served rfl ?_ fun _ _ => rfl
    rw [decodeFields_readLine, onLine_lineByte]
  case readProposals =>
    intro start served
    refine ⟨_, rfl, ?_⟩
    simp only [← entrySummary_eq]
    exact requestEvent_read s p src tag .readProposals [start] (.readProposals start) _ served rfl rfl
      fun r _ => reqReadProposals_eq start r
  case readConfig =>
    intro t served
    refine ⟨_, rfl, ?_⟩
    refine requestEvent_read s p src tag .readConfig [t.byte] (.readConfig t) _ served rfl ?_ ?_
    · rw [decodeFields_readConfig, onTarget_byte]
    · intro r admitted
      cases t <;> rfl
  case readShadow =>
    intro t o sh rev state session served
    refine ⟨_, rfl, (requestEvent_readShadow (session.imp And.right And.right) served).imp ?_⟩
    intro r x renewed touched
    rw [touched, shadowResult_eq, renewed.session]
    obtain ⟨rfl, d, editing⟩ | ⟨rfl, voting⟩ := session
    · rw [touchSession_editing (renewed.session.trans editing), editing]
      simp only [true_and]
      exact ⟨rfl, rfl⟩
    · have not_editing : ¬((2#8 : Byte) = 1#8 ∧ o = p) := fun ⟨h, _⟩ => absurd h (by decide)
      rw [touchSession_voting (renewed.session.trans voting), voting, if_neg not_editing]
      exact ⟨rfl, rfl⟩

end Sys2Proof.Machine
end

section
/-! PROOFS. The two deadlines that release a line (R66, R67, R72). -/

namespace Sys2Proof.Machine

open Sys2Proof

/-- The event of a pulse deadline that is due (R72). -/
theorem exec_pulseDeadline {n : LineId} {d : Deadline} {s : State} (running : s.rstn = .high)
    (pulse : (s.line n).pulse = some d) (reached : d.reached s.count = true) :
    exec (.pulseDeadline n) s = .next (lineClaim n .pulseEnd Line.commandReleased s) := by
  show Host.Outcome.next (whenRunning _ s) = _
  simp only [whenRunning, running, pulse, State.due, reached, if_true]

/-- The event of a lease deadline that is due (R67). -/
theorem exec_leaseDeadline {n : LineId} {d : Deadline} {s : State} (running : s.rstn = .high)
    (lease : (s.line n).lease = some d) (reached : d.reached s.count = true) :
    exec (.leaseDeadline n) s = .next (endLease n .expired .leaseEnd s) := by
  show Host.Outcome.next (whenRunning _ s) = _
  simp only [whenRunning, running, lease, State.due, reached, if_true]

/-- Settles O13: a deadline that is due makes one claim on the line, or ends its lease. -/
theorem lineDeadlinesReleaseTheLine : Obligations.LineDeadlinesReleaseTheLine := by
  refine ⟨?pulse, ?lease⟩
  case pulse =>
    intro n d s running pulse reached
    exact ⟨_, exec_pulseDeadline running pulse reached, lineClaim_taken s n .pulseEnd _⟩
  case lease =>
    intro n m d s running owner lease reached
    exact ⟨_, exec_leaseDeadline running lease reached, endLease_ends s n m .expired .leaseEnd owner⟩

end Sys2Proof.Machine
end

section
/-! PROOFS. The six direct requests: each is decided by the first check of R53 that fails, and one that passes
claims its line alone and is answered with the line result (R53, R54). -/

namespace Sys2Proof.Machine

open Sys2Proof

/-! ### A claim on one line alone -/

/-- Nothing but the record of line n and the status records changes. -/
def OnLineAlone (n : LineId) (s t : State) : Prop :=
  t = { s with lines := t.lines, status := t.status } ∧ ∀ k, k ≠ n → t.line k = s.line k

theorem OnLineAlone.ports {n : LineId} {s t : State} (h : OnLineAlone n s t) : t.ports = s.ports := by
  rw [h.1]

theorem OnLineAlone.linkAddress {n : LineId} {s t : State} (h : OnLineAlone n s t) :
    t.linkAddress = s.linkAddress := by
  rw [h.1]

theorem updLine_onLineAlone (n : LineId) (f : Line → Line) (s : State) :
    OnLineAlone n s (s.updLine n f) :=
  ⟨rfl, fun k other => State.updLine_line_other s n k f other⟩

theorem lineClaim_onLineAlone (n : LineId) (cause : Cause) (f : Line → Line) (s : State) :
    OnLineAlone n s (lineClaim n cause f s) :=
  have taken := lineClaim_taken s n cause f
  ⟨taken.frame, taken.others⟩

theorem endLease_onLineAlone {n : LineId} {m : MasterId} {s : State} (reason : LeaseReason) (cause : Cause)
    (owner : (s.line n).owner = some m) : OnLineAlone n s (endLease n reason cause s) :=
  have ends := endLease_ends s n m reason cause owner
  ⟨ends.frame, ends.others⟩

/-! ### The checks of R53 -/

theorem State.held_iff (s : State) : s.held = true ↔ s.hold.qualified = .asserted := by
  simp [State.held]

theorem leaseDurationOk_iff (l : Line) (d : W16) :
    leaseDurationOk l d = true ↔ 10 ≤ d.toNat ∧ d.toNat ≤ l.cfg.leaseMax.toNat := by
  simp [leaseDurationOk]

theorem pulseDurationOk_iff (l : Line) (d : W16) :
    pulseDurationOk l d = true ↔ 1 ≤ d.toNat ∧ d.toNat ≤ l.cfg.pulseMax.toNat := by
  simp [pulseDurationOk]

/-- No check of R53 reads what a renewal changes. -/
theorem directRefusal_renew (s : State) (p : PortId) (src : Byte) (m : MasterId) (n : LineId)
    (code : RequestCode) (d : W16) :
    directRefusal (renew p src s) m n code d = directRefusal s m n code d := by
  simp only [directRefusal, renew_line, renew_quarantined, renew_count, renew_hold]

/-- A check of R53 does not answer CODE, which is decode's own (R140). -/
theorem directRefusal_ne_code {s : State} {m : MasterId} {n : LineId} {code : RequestCode} {d : W16}
    {st : Status} {res : List Byte} (refused : directRefusal s m n code d = some (st, res)) :
    st ≠ .code := by
  rintro rfl
  simp only [directRefusal] at refused
  split_ifs at refused <;> simp at refused

/-! ### What the Line Control Unit answers -/

/-- The answer of the Line Control Unit to a direct request: the first failing check of R53 with the state as it
was, or DONE with the line result after a claim on that line alone. -/
inductive DecidedByChecks (s : State) (m : MasterId) (n : LineId) (code : RequestCode) (d : W16) :
    State × Answer → Prop
  | refused {st : Status} {res : List Byte} (check : directRefusal s m n code d = some (st, res)) :
      DecidedByChecks s m n code d (s, ⟨st, res⟩)
  | taken {t : State} (checks : directRefusal s m n code d = none) (alone : OnLineAlone n s t) :
      DecidedByChecks s m n code d (lineDone n t)

section
variable {s : State} {m : MasterId} {n : LineId} {code : RequestCode} {d : W16} {r : State × Answer}

/-- A failing check gives the whole answer. -/
theorem DecidedByChecks.eq_refusal {st : Status} {res : List Byte} (decided : DecidedByChecks s m n code d r)
    (check : directRefusal s m n code d = some (st, res)) : r = (s, ⟨st, res⟩) := by
  cases decided with
  | refused check' => cases check'.symm.trans check; rfl
  | taken checks _ => cases checks.symm.trans check

/-- A request that passes every check has claimed its line. -/
theorem DecidedByChecks.exists_lineDone (decided : DecidedByChecks s m n code d r)
    (checks : directRefusal s m n code d = none) : ∃ t, OnLineAlone n s t ∧ r = lineDone n t := by
  cases decided with
  | refused check => cases check.symm.trans checks
  | @taken t _ alone => exact ⟨t, alone, rfl⟩

/-- The first two checks of a request that LEASED lines alone take: the quarantine mark, then the policy. -/
theorem decided_on_leased (not_assert : code ≠ .assertLine) (not_release : code ≠ .releaseLine)
    (rest : (s.master m).quarantined = false → (s.line n).cfg.policy = .leased →
      DecidedByChecks s m n code d r) :
    DecidedByChecks s m n code d
      (if (s.master m).quarantined then refuse .quarantined s
      else if (s.line n).cfg.policy ≠ .leased then refuse .policy s else r) := by
  split_ifs with quarantined unleased
  · exact .refused (by simp [directRefusal, quarantined])
  · exact .refused (by simp [directRefusal, quarantined, unleased, not_assert, not_release])
  · exact rest (Bool.eq_false_iff.mpr quarantined) (not_not.mp unleased)

end

section
variable (s : State) (m : MasterId) (n : LineId) (d : W16)

theorem reqAssertLine_decided : DecidedByChecks s m n .assertLine d (reqAssertLine m n s) := by
  unfold reqAssertLine
  split
  next quarantined => exact .refused (by simp [directRefusal, quarantined])
  next free =>
    split
    next shared =>
      split
      next held => exact .refused (by simp [directRefusal, free, shared, s.held_iff.mp held])
      next unheld =>
        rw [State.held_iff] at unheld
        exact .taken (by simp [directRefusal, free, shared, unheld]) (lineClaim_onLineAlone ..)
    next leased =>
      split
      next stranger => exact .refused (by simp [directRefusal, free, leased, stranger])
      next owner =>
        split
        next held => exact .refused (by simp [directRefusal, free, leased, owner, s.held_iff.mp held])
        next unheld =>
          rw [State.held_iff] at unheld
          exact .taken (by simp [directRefusal, free, leased, owner, unheld]) (lineClaim_onLineAlone ..)
    next quorum => exact .refused (by simp [directRefusal, free, quorum])
    next fixed => exact .refused (by simp [directRefusal, free, fixed])

theorem reqReleaseLine_decided : DecidedByChecks s m n .releaseLine d (reqReleaseLine m n s) := by
  unfold reqReleaseLine
  split
  next quarantined => exact .refused (by simp [directRefusal, quarantined])
  next free =>
    split
    next shared => exact .taken (by simp [directRefusal, free, shared]) (lineClaim_onLineAlone ..)
    next leased =>
      split
      next stranger => exact .refused (by simp [directRefusal, free, leased, stranger])
      next owner => exact .taken (by simp [directRefusal, free, leased, owner]) (lineClaim_onLineAlone ..)
    next quorum => exact .refused (by simp [directRefusal, free, quorum])
    next fixed => exact .refused (by simp [directRefusal, free, fixed])

theorem reqClaimLine_decided : DecidedByChecks s m n .claimLine d (reqClaimLine m n d s) := by
  refine decided_on_leased nofun nofun fun free leased => ?_
  simp only [Bool.not_eq_true', ← Bool.not_eq_true, leaseDurationOk_iff]
  split
  next other => exact .refused (by simp [directRefusal, free, leased, other])
  next available =>
    split
    next range => exact .refused (by simp [directRefusal, free, leased, available, range])
    next fits =>
      exact .taken (by simp [directRefusal, free, leased, available, fits]) (updLine_onLineAlone ..)

theorem reqRenewLease_decided : DecidedByChecks s m n .renewLease d (reqRenewLease m n d s) := by
  refine decided_on_leased nofun nofun fun free leased => ?_
  simp only [Bool.not_eq_true', ← Bool.not_eq_true, leaseDurationOk_iff]
  split
  next stranger => exact .refused (by simp [directRefusal, free, leased, stranger])
  next owner =>
    split
    next range => exact .refused (by simp [directRefusal, free, leased, owner, range])
    next fits => exact .taken (by simp [directRefusal, free, leased, owner, fits]) (updLine_onLineAlone ..)

theorem reqRelinquishLine_decided :
    DecidedByChecks s m n .relinquishLine d (reqRelinquishLine m n s) := by
  refine decided_on_leased nofun nofun fun free leased => ?_
  split
  next stranger => exact .refused (by simp [directRefusal, free, leased, stranger])
  next owner =>
    exact .taken (by simp [directRefusal, free, leased, owner])
      (endLease_onLineAlone .relinquished .direct (not_not.mp owner))

theorem reqPulseLine_decided : DecidedByChecks s m n .pulseLine d (reqPulseLine m n d s) := by
  refine decided_on_leased nofun nofun fun free leased => ?_
  simp only [Bool.not_eq_true', ← Bool.not_eq_true, pulseDurationOk_iff, State.held_iff]
  split
  next no_pulses => exact .refused (by simp [directRefusal, free, leased, no_pulses])
  next pulses =>
    split
    next stranger => exact .refused (by simp [directRefusal, free, leased, pulses, stranger])
    next owner =>
      split
      next range => exact .refused (by simp [directRefusal, free, leased, pulses, owner, range])
      next fits =>
        split
        next held => exact .refused (by simp [directRefusal, free, leased, pulses, owner, fits, held])
        next unheld =>
          exact .taken (by simp [directRefusal, free, leased, pulses, owner, fits, unheld])
            (lineClaim_onLineAlone ..)

end

/-! ### The six commands -/

/-- A direct request command is the event of its request. Decoding tests the line number alone (R195), and the
Line Control Unit then decides the request by the checks of R53 (R141). -/
theorem exec_directRequest {p : PortId} {src tag line : Byte} {d : W16} {c : Instr} {code : RequestCode}
    {params : List Byte} (direct : (c, code, params) ∈ directRequests p src tag line d) :
    (∀ s, exec c s = .next (requestEvent p src tag code params s)) ∧ params.length = code.paramLength ∧
      ∃ request : LineId → Request, decodeFields code params = onLine line request ∧
        ∀ s m n admitted, DecidedByChecks s m n code d (dispatch m admitted (request n) s) := by
  simp only [directRequests, List.mem_cons, Prod.mk.injEq, List.not_mem_nil, or_false] at direct
  obtain ⟨rfl, rfl, rfl⟩ | ⟨rfl, rfl, rfl⟩ | ⟨rfl, rfl, rfl⟩ | ⟨rfl, rfl, rfl⟩ | ⟨rfl, rfl, rfl⟩ |
    ⟨rfl, rfl, rfl⟩ := direct <;> refine ⟨fun _ => rfl, rfl, ?_⟩
  · exact ⟨.assertLine, decodeFields_assertLine line, fun s m n _ => reqAssertLine_decided s m n d⟩
  · exact ⟨.releaseLine, decodeFields_releaseLine line, fun s m n _ => reqReleaseLine_decided s m n d⟩
  · exact ⟨fun n => .claimLine n d, by rw [wordBytes, decodeFields_claimLine, bytesWord_wordBytes],
      fun s m n _ => reqClaimLine_decided s m n d⟩
  · exact ⟨fun n => .renewLease n d, by rw [wordBytes, decodeFields_renewLease, bytesWord_wordBytes],
      fun s m n _ => reqRenewLease_decided s m n d⟩
  · exact ⟨.relinquishLine, decodeFields_relinquishLine line,
      fun s m n _ => reqRelinquishLine_decided s m n d⟩
  · exact ⟨fun n => .pulseLine n d, by rw [wordBytes, decodeFields_pulseLine, bytesWord_wordBytes],
      fun s m n _ => reqPulseLine_decided s m n d⟩

/-- Settles O12: on a line, the checks of R53 decide, and they read nothing that the renewal before them changes;
a line number above 15 does not pass decode. -/
theorem directRequestsAreCheckedInOrder : Obligations.DirectRequestsAreCheckedInOrder := by
  intro p src tag d s c code params served
  refine ⟨?refused, ?taken, ?range⟩
  case refused =>
    intro n st res direct refusal
    obtain ⟨exec_eq, length, request, decoded, decided⟩ := exec_directRequest direct
    refine ⟨_, exec_eq s, ?_⟩
    exact requestEvent_refused s p src tag code params (request n) st (fun _ => res) served length
      (decoded.trans (onLine_lineByte n request))
      ((decided _ p n _).eq_refusal ((directRefusal_renew s p src p n code d).trans refusal))
      (directRefusal_ne_code refusal)
  case taken =>
    intro n direct passes
    obtain ⟨exec_eq, length, request, decoded, decided⟩ := exec_directRequest direct
    obtain ⟨t, alone, answer⟩ :=
      (decided (renew p src s) p n ((s.master p).presence = .absent)).exists_lineDone
        ((directRefusal_renew s p src p n code d).trans passes)
    refine ⟨_, exec_eq s, ?_⟩
    simp only [nineBytes_eq]
    exact requestEvent_taken_of_ports s p src tag code params (request n) t ⟨.done, lineResult t n⟩
      (OnLineAlone n) _ served length (decoded.trans (onLine_lineByte n request)) answer nofun
      (alone.ports.trans (renew_ports s p src)) (alone.linkAddress.trans (renew_linkAddress s p src))
      alone rfl
  case range =>
    intro line above direct
    obtain ⟨exec_eq, length, request, decoded, -⟩ := exec_directRequest direct
    refine ⟨_, exec_eq s, ?_⟩
    exact requestEvent_refused_at_decode s p src tag code params .range served length
      (decoded.trans (onLine_range line request above)) nofun

end Sys2Proof.Machine
end

section
/-! PROOFS. The feedback monitor: a settle deadline that is due compares the input with the driven level (R78), and
a change of the input reverses a comparison already made (R79). -/

namespace Sys2Proof.Machine

open Sys2Proof

/-! ### The settle deadline (R78) -/

/-- The event of a settle deadline that is due (R78). -/
theorem exec_settleDeadline {n : LineId} {d : Deadline} {s : State} (running : s.rstn = .high)
    (settle : (s.line n).settle = some d) (reached : d.reached s.count = true) :
    exec (.settleDeadline n) s = .next (settleReached n s) := by
  show Host.Outcome.next (whenRunning _ s) = _
  simp only [whenRunning, running, settle, State.due, reached, if_true]

/-- An input at the driven level enters MATCH and raises nothing (R78, R81). -/
theorem settleReached_agreeing {n : LineId} {s : State} (agree : s.input n = s.driven n) :
    settleReached n s = s.setLine n { s.line n with feedback := .matching, settle := none } :=
  if_pos agree

/-- An input at the other level enters MISMATCH (R78, R80). -/
theorem settleReached_disagreeing {n : LineId} {s : State} (disagree : s.input n ≠ s.driven n) :
    settleReached n s = enterMismatch n s :=
  if_neg disagree

/-- Settles O15: the two branches of the comparison, the second by what entering MISMATCH does. -/
theorem settleDeadlineCompares : Obligations.SettleDeadlineCompares := by
  intro n d s running settle reached
  rw [exec_settleDeadline running settle reached]
  refine ⟨?agree, ?disagree⟩
  case agree =>
    intro agree
    rw [settleReached_agreeing agree]
  case disagree =>
    intro disagree
    rw [settleReached_disagreeing disagree]
    exact ⟨_, rfl, enterMismatch_enters s n⟩

/-! ### A change of the input (R79) -/

/-- The part with the input FBKn at a level, before the line answers. It writes the inputs alone, so line records,
status records and driven levels read as before by definition (R5). -/
def State.setInput (s : State) (n : LineId) (level : Level) : State :=
  { s with fbk := s.fbk.set n.val level n.isLt }

/-- The event of an input that changes while the part runs (R79). -/
theorem exec_feedbackInputChange {n : LineId} {level : Level} {s : State} (running : s.rstn = .high)
    (change : level ≠ s.input n) :
    exec (.feedbackInputChange n level) s = .next (inputChanged n level s) := by
  show execFeedbackInputChange n level s = _
  rw [execFeedbackInputChange, if_neg change, running]

/-- Entering MATCH from MISMATCH: the feedback state and the FEEDBACK notice (R79, R81). -/
def leaveMismatch (n : LineId) (level : Level) (s : State) : State :=
  raise (.feedback n .matching (s.driven n) level) (s.updLine n fun l => { l with feedback := .matching })

section
variable (n : LineId) (level : Level) (s : State)

/-- OFF and SETTLING compare nothing (R79). -/
theorem inputChanged_unwatched (unwatched : (s.line n).feedback = .off ∨ (s.line n).feedback = .settling) :
    inputChanged n level s = s.setInput n level := by
  obtain off | settling := unwatched
  · rw [inputChanged, off, State.setInput]
  · rw [inputChanged, settling, State.setInput]

theorem inputChanged_matching (matching : (s.line n).feedback = .matching) :
    inputChanged n level s = enterMismatch n (s.setInput n level) := by
  rw [inputChanged, matching, State.setInput]

theorem inputChanged_mismatch (mismatch : (s.line n).feedback = .mismatch) :
    inputChanged n level s = leaveMismatch n level (s.setInput n level) := by
  rw [inputChanged, mismatch, leaveMismatch, State.setInput]

/-- Entering MATCH writes the lines and the status records alone. -/
theorem leaveMismatch_frame :
    leaveMismatch n level s =
      { s with lines := (leaveMismatch n level s).lines, status := (leaveMismatch n level s).status } := rfl

theorem leaveMismatch_line_same :
    (leaveMismatch n level s).line n = { s.line n with feedback := .matching } := by
  rw [leaveMismatch, raise_line, State.updLine_line_same]

theorem leaveMismatch_line_other (k : LineId) (other : k ≠ n) :
    (leaveMismatch n level s).line k = s.line k := by
  rw [leaveMismatch, raise_line, State.updLine_line_other _ _ _ _ other]

/-- Entering MATCH sets no flag (R81). -/
theorem leaveMismatch_stat (m : MasterId) :
    (leaveMismatch n level s).stat m =
      noticed s m (.feedback n .matching (s.driven n) level) (s.stat m) := by
  rw [leaveMismatch, raise_noticed, State.updLine_stat]
  exact noticed_congr (fun _ => rfl) m _ _

end

/-- Settles O16: the rows of R79, with what entering MISMATCH and what leaving it does. -/
theorem feedbackInputChangeReversesTheComparison : Obligations.FeedbackInputChangeReversesTheComparison := by
  intro n level s s' running change after
  obtain rfl : s' = s.setInput n level := after
  rw [exec_feedbackInputChange running change]
  refine ⟨?unwatched, ?matching, ?mismatch⟩
  case unwatched =>
    intro unwatched
    rw [inputChanged_unwatched n level s unwatched]
  case matching =>
    intro matching
    rw [inputChanged_matching n level s matching]
    exact ⟨_, rfl, enterMismatch_enters _ n⟩
  case mismatch =>
    intro mismatch
    rw [inputChanged_mismatch n level s mismatch]
    exact ⟨_, rfl, leaveMismatch_frame n level _, leaveMismatch_line_other n level _,
      leaveMismatch_line_same n level _, leaveMismatch_stat n level _⟩

end Sys2Proof.Machine
end

section
/-! PROOFS. A notice placed in a queue (R163): the three places it can take, what they keep of the queue, and the
keys and classes of section 8.5. -/

namespace Sys2Proof.Machine

open Sys2Proof

/-! ### The three places (R163) -/

section

variable {r : StatusRecord} {nt : Notice}

theorem StatusRecord.enqueue_of_key_present (present : ∃ x ∈ r.queue, x.key = nt.key) :
    r.enqueue nt = { r with queue := r.queue.map fun x => if x.key = nt.key then nt else x } :=
  if_pos (by simpa using present)

theorem StatusRecord.enqueue_of_key_absent (absent : ∀ x ∈ r.queue, x.key ≠ nt.key) :
    r.enqueue nt =
      if r.queue.length < 8 then { r with queue := r.queue ++ [nt] } else r.setFlag .noticeLost :=
  if_neg (by simpa using absent)

theorem StatusRecord.enqueue_of_room (absent : ∀ x ∈ r.queue, x.key ≠ nt.key) (room : r.queue.length < 8) :
    r.enqueue nt = { r with queue := r.queue ++ [nt] } := by
  rw [enqueue_of_key_absent absent, if_pos room]

theorem StatusRecord.enqueue_of_full (absent : ∀ x ∈ r.queue, x.key ≠ nt.key) (full : 8 ≤ r.queue.length) :
    r.enqueue nt = r.setFlag .noticeLost := by
  rw [enqueue_of_key_absent absent, if_neg (Nat.not_lt.mpr full)]

end

/-! ### What placing a notice keeps -/

theorem distinctKeys_iff_nodup (q : List Notice) : distinctKeys q ↔ (q.map Notice.key).Nodup :=
  List.pairwise_map.symm

/-- A notice that takes the place of the entry with its key leaves the keys of the queue as they stand. -/
theorem map_key_coalesce (q : List Notice) (nt : Notice) :
    (q.map fun x => if x.key = nt.key then nt else x).map Notice.key = q.map Notice.key := by
  rw [List.map_map]
  refine List.map_congr_left fun x _ => ?_
  by_cases same : x.key = nt.key <;> simp [same]

theorem distinctKeys_coalesce {q : List Notice} (distinct : distinctKeys q) (nt : Notice) :
    distinctKeys (q.map fun x => if x.key = nt.key then nt else x) := by
  rw [distinctKeys_iff_nodup] at distinct ⊢
  rwa [map_key_coalesce]

theorem distinctKeys_append {q : List Notice} {nt : Notice} (distinct : distinctKeys q)
    (absent : ∀ x ∈ q, x.key ≠ nt.key) : distinctKeys (q ++ [nt]) :=
  List.pairwise_append.mpr ⟨distinct, List.pairwise_singleton _ _, by simpa using absent⟩

/-- Placing a notice keeps the bounds of R163 on the queue. -/
theorem StatusRecord.enqueue_keeps_queue {r : StatusRecord} (nt : Notice) (within : r.queue.length ≤ 8)
    (distinct : distinctKeys r.queue) :
    (r.enqueue nt).queue.length ≤ 8 ∧ distinctKeys (r.enqueue nt).queue := by
  by_cases present : ∃ x ∈ r.queue, x.key = nt.key
  · rw [enqueue_of_key_present present]
    exact ⟨(List.length_map _).trans_le within, distinctKeys_coalesce distinct nt⟩
  · have absent : ∀ x ∈ r.queue, x.key ≠ nt.key := by simpa using present
    obtain room | full := Nat.lt_or_ge r.queue.length 8
    · rw [enqueue_of_room absent room]
      exact ⟨by simpa using room, distinctKeys_append distinct absent⟩
    · rw [enqueue_of_full absent full]
      exact ⟨within, distinct⟩

/-! ### Keys and classes (section 8.5) -/

/-- A subject key as its class and its number in it. -/
def NoticeKey.subject : NoticeKey → NoticeClass × Nat
  | .line n => (.lines, n.val)
  | .proposal id => (.proposals, id.toNat)
  | .lease n => (.leases, n.val)
  | .feedback n => (.feedback, n.val)
  | .master m => (.masters, m.val)
  | .config => (.part, 0)
  | .hold => (.part, 1)

theorem noticeSubject_eq (nt : Notice) : noticeSubject nt = nt.key.subject := by
  cases nt <;> rfl

theorem Notice.cls_eq (nt : Notice) : nt.cls = (noticeSubject nt).1 := by
  cases nt <;> rfl

/-- The key that a class and a number in it name: `subject` read back, which makes it injective. -/
def NoticeKey.ofSubject : NoticeClass × Nat → NoticeKey
  | (.lines, n) => .line (Fin.ofNat _ n)
  | (.proposals, id) => .proposal (BitVec.ofNat _ id)
  | (.leases, n) => .lease (Fin.ofNat _ n)
  | (.feedback, n) => .feedback (Fin.ofNat _ n)
  | (.masters, m) => .master (Fin.ofNat _ m)
  | (.part, 0) => .config
  | (.part, _) => .hold

theorem NoticeKey.ofSubject_subject : Function.LeftInverse NoticeKey.ofSubject NoticeKey.subject
  | .line n => congrArg NoticeKey.line (Fin.ofNat_val_eq_self n)
  | .proposal id => congrArg NoticeKey.proposal ((BitVec.ofNat_toNat 8 id).trans id.setWidth_eq)
  | .lease n => congrArg NoticeKey.lease (Fin.ofNat_val_eq_self n)
  | .feedback n => congrArg NoticeKey.feedback (Fin.ofNat_val_eq_self n)
  | .master m => congrArg NoticeKey.master (Fin.ofNat_val_eq_self m)
  | .config => rfl
  | .hold => rfl

/-- The model's keys tell notices apart as the table of section 8.5 does. -/
theorem Notice.key_eq_iff (x nt : Notice) : x.key = nt.key ↔ noticeSubject x = noticeSubject nt := by
  rw [noticeSubject_eq, noticeSubject_eq, NoticeKey.ofSubject_subject.injective.eq_iff]

/-- Settles O45: the three places of R163 with what they keep, and the table of section 8.5. -/
theorem aNoticeTakesItsPlaceInTheQueue : Obligations.ANoticeTakesItsPlaceInTheQueue := by
  intro r nt
  exact ⟨StatusRecord.enqueue_of_key_present, StatusRecord.enqueue_of_room, StatusRecord.enqueue_of_full,
    StatusRecord.enqueue_keeps_queue nt, fun x => ⟨Notice.key_eq_iff x nt, Notice.cls_eq x⟩⟩

end Sys2Proof.Machine
end

section
/-! PROOFS. The check byte of a packet (R192): the remainder register over the bytes of a packet, and what its own
check byte leaves in it. -/

namespace Sys2Proof.Machine

open Sys2Proof

/-! ### One shift of the register -/

/-- A shift as R192 words it: the register moves left, then takes the polynomial when bit 7 was 1. -/
theorem crcShift_eq_xor (r : Byte) :
    crcShift r = (r <<< 1) ^^^ (if r.getLsbD 7 then 0x07#8 else 0#8) := by
  have top : r.msb = r.getLsbD 7 := BitVec.msb_eq_getLsbD_last r
  unfold crcShift
  rw [top]
  split
  · rfl
  · exact BitVec.xor_zero.symm

@[simp] theorem crcShift_zero : crcShift 0#8 = 0#8 := rfl

/-! ### Bytes through the register -/

/-- A byte equal to the register clears it, and the shifts keep a register of 0. -/
@[simp] theorem crcByte_self (r : Byte) : crcByte r r = 0#8 := by
  have cleared : r ^^^ r = 0#8 := BitVec.xor_self
  rw [crcByte, cleared]
  simp only [Nat.repeat, crcShift_zero]

@[simp] theorem crc8_nil : crc8 [] = 0#8 := rfl

theorem crc8_concat (bytes : List Byte) (b : Byte) : crc8 (bytes ++ [b]) = crcByte (crc8 bytes) b :=
  List.foldl_concat crcByte 0#8 b bytes

/-- A packet closed by its check byte leaves the register at 0 (R192). -/
theorem crc8_concat_check (bytes : List Byte) : crc8 (bytes ++ [crc8 bytes]) = 0#8 := by
  rw [crc8_concat, crcByte_self]

/-- Each further byte is XORed into the register, which then takes the eight shifts of R192. -/
theorem crc8_concat_eq_repeat (bytes : List Byte) (b : Byte) :
    crc8 (bytes ++ [b]) =
      Nat.repeat (fun r : Byte => (r <<< 1) ^^^ (if r.getLsbD 7 then 0x07#8 else 0#8)) 8 (crc8 bytes ^^^ b) := by
  rw [crc8_concat, crcByte, funext crcShift_eq_xor]

/-! ### The manual's HEARTBEAT example -/

/-- The register after the destination, the source, the tag and the code of the example (R192). -/
theorem crc8_heartbeat_example : crc8 [0x40#8, 0x21#8, 0x05#8, 0x10#8] = 0x82#8 := by
  have dest : crcByte 0#8 0x40#8 = 0xC7#8 := by decide
  have src : crcByte 0xC7#8 0x21#8 = 0xBC#8 := by decide
  have tag : crcByte 0xBC#8 0x05#8 = 0x26#8 := by decide
  have code : crcByte 0x26#8 0x10#8 = 0x82#8 := by decide
  simp only [crc8, List.foldl_cons, List.foldl_nil, dest, src, tag, code]

/-- Settles O46: the register at the start and at each byte, the residue of a closed packet, and the check byte of
the manual's HEARTBEAT example. -/
theorem theCheckByteIsTheCrc8 : Obligations.TheCheckByteIsTheCrc8 :=
  ⟨crc8_nil, crc8_concat_eq_repeat, crc8_concat_check, crc8_heartbeat_example⟩

end Sys2Proof.Machine
end

section
/-! PROOFS. What the units of the part can do to the state, said once for every request: a claim keeps the pins, the
count, the HOLD conditioner and the queue of commands, tells a master something only while it is PRESENT, and touches
a port only to switch it. -/

namespace Sys2Proof.Machine

open Sys2Proof

/-! ### Status records and ports -/

/-- What notices and flags can make of a status record: a notice is placed while its master is PRESENT alone (R155,
R161, R163). -/
inductive Informed (present : Prop) (r : StatusRecord) : StatusRecord → Prop
  | same : Informed present r r
  | placed {r' : StatusRecord} (nt : Notice) (h : Informed present r r') (routed : present) :
      Informed present r (r'.enqueue nt)
  | marked {r' : StatusRecord} (f : Flag) (h : Informed present r r') : Informed present r (r'.setFlag f)

namespace Informed

variable {present : Prop} {r r' r'' : StatusRecord}

theorem trans (first : Informed present r r') (second : Informed present r' r'') : Informed present r r'' := by
  induction second with
  | same => exact first
  | placed nt _ routed ih => exact .placed nt ih routed
  | marked f _ ih => exact .marked f ih

theorem mask (h : Informed present r r') : r'.mask = r.mask := by
  induction h with
  | same => rfl
  | placed nt _ _ ih => rw [StatusRecord.enqueue_mask, ih]
  | marked f _ ih => rw [StatusRecord.setFlag_mask, ih]

theorem seq (h : Informed present r r') : r'.seq = r.seq := by
  induction h with
  | same => rfl
  | placed nt _ _ ih => rw [StatusRecord.enqueue_seq, ih]
  | marked f _ ih => rw [StatusRecord.setFlag_seq, ih]

/-- A master that is not PRESENT is told nothing (R161). -/
theorem queue_of_absent (h : Informed present r r') (absent : ¬present) : r'.queue = r.queue := by
  induction h with
  | same => rfl
  | placed _ _ routed _ => exact absurd routed absent
  | marked f _ ih => rw [StatusRecord.setFlag_queue, ih]

/-- Notices and flags keep the bounds of R163 on a queue. -/
theorem keeps_queue (h : Informed present r r') (within : r.queue.length ≤ 8 ∧ distinctKeys r.queue) :
    r'.queue.length ≤ 8 ∧ distinctKeys r'.queue := by
  induction h with
  | same => exact within
  | placed nt _ _ ih => exact StatusRecord.enqueue_keeps_queue nt ih.1 ih.2
  | marked f _ ih => exact ih

end Informed

/-- What switching a port on and off can make of its record (R188, R189). -/
inductive Switched (r : Port) : Port → Prop
  | same : Switched r r
  | off {r' : Port} (h : Switched r r') : Switched r r'.goOff
  | started {r' : Port} (h : Switched r r') : Switched r r'.startLink

theorem Switched.trans {r r' r'' : Port} (first : Switched r r') (second : Switched r' r'') : Switched r r'' := by
  induction second with
  | same => exact first
  | off _ ih => exact ih.off
  | started _ ih => exact ih.started

/-- A switched port keeps what both switches keep. -/
theorem Switched.keeps {P : Port → Prop} {r r' : Port} (h : Switched r r') (off : ∀ x, P x → P x.goOff)
    (started : ∀ x, P x → P x.startLink) (holds : P r) : P r' := by
  induction h with
  | same => exact holds
  | off _ ih => exact off _ ih
  | started _ ih => exact started _ ih

/-! ### Claims -/

/-- What one unit's claims can do, a commanded restart and the status requests left out. -/
structure Claimed (s t : State) : Prop where
  frame : t = { s with
    lines := t.lines, table := t.table, nextId := t.nextId, masters := t.masters, config := t.config,
    generation := t.generation, session := t.session, status := t.status, ports := t.ports }
  master : ∀ m, t.master m = { s.master m with quarantined := (t.master m).quarantined }
  told : ∀ m, Informed ((s.master m).presence = .present) (s.stat m) (t.stat m)
  port : ∀ p, Switched (s.port p) (t.port p)

namespace Claimed

variable {s t u : State}

theorem refl (s : State) : Claimed s s := ⟨rfl, fun _ => rfl, fun _ => .same, fun _ => .same⟩

theorem presence (h : Claimed s t) (m : MasterId) : (t.master m).presence = (s.master m).presence := by
  rw [h.master]

theorem trans (first : Claimed s t) (second : Claimed t u) : Claimed s u where
  frame := by rw [second.frame, first.frame]
  master m := by rw [second.master, first.master]
  told m := (first.told m).trans (first.presence m ▸ second.told m)
  port p := (first.port p).trans (second.port p)

/-- A claim that leaves the masters and the ports. -/
theorem of_told (frame : t = { s with
      lines := t.lines, table := t.table, nextId := t.nextId, config := t.config,
      generation := t.generation, session := t.session, status := t.status })
    (told : ∀ m, Informed ((s.master m).presence = .present) (s.stat m) (t.stat m)) : Claimed s t where
  frame := by rw [frame]
  master m := by rw [frame]; rfl
  told := told
  port p := by rw [frame]; exact .same

/-- Claims made one after another on the members of a list. -/
theorem foldl {α : Type} {f : State → α → State} (each : ∀ s a, Claimed s (f s a)) (l : List α) (s : State) :
    Claimed s (l.foldl f s) := by
  induction l generalizing s with
  | nil => exact refl s
  | cons a l ih => exact (each s a).trans (ih _)

theorem rstn (h : Claimed s t) : t.rstn = s.rstn := by rw [h.frame]
theorem count (h : Claimed s t) : t.count = s.count := by rw [h.frame]
theorem linkAddress (h : Claimed s t) : t.linkAddress = s.linkAddress := by rw [h.frame]
theorem hold (h : Claimed s t) : t.hold = s.hold := by rw [h.frame]
theorem pending (h : Claimed s t) : t.pending = s.pending := by rw [h.frame]

end Claimed

variable (s : State)

theorem raise_claimed (nt : Notice) : Claimed s (raise nt s) :=
  .of_told rfl fun m => by
    rw [raise_noticed, noticed]
    split
    next routed => exact .placed nt .same routed.1
    · exact .same

theorem setFlag_claimed (m : MasterId) (f : Flag) : Claimed s (setFlag m f s) :=
  .of_told rfl fun k => by
    rw [setFlag_stat]
    split
    next same => rw [same]; exact .marked f .same
    · exact .same

theorem updLine_claimed (n : LineId) (f : Line → Line) : Claimed s (s.updLine n f) :=
  .of_told rfl fun _ => .same

theorem setTable_claimed (t : List Entry) : Claimed s (s.setTable t) := .of_told rfl fun _ => .same

theorem setSession_claimed (x : Session) : Claimed s (s.setSession x) := .of_told rfl fun _ => .same

theorem setQuarantined_claimed (m : MasterId) (mark : Bool) :
    Claimed s (s.setMaster m { s.master m with quarantined := mark }) where
  frame := rfl
  master k := by
    by_cases same : k = m
    · subst same; simp
    · simp [same]
  told _ := .same
  port _ := .same

theorem goOff_claimed (p : PortId) : Claimed s (s.updPort p Port.goOff) where
  frame := rfl
  master _ := rfl
  told _ := .same
  port k := by
    rw [State.updPort_port]
    split
    next same => rw [same]; exact .off .same
    · exact .same

theorem startLink_claimed (p : PortId) : Claimed s (s.updPort p Port.startLink) where
  frame := rfl
  master _ := rfl
  told _ := .same
  port k := by
    rw [State.updPort_port]
    split
    next same => rw [same]; exact .started .same
    · exact .same

/-! ### Lines -/

theorem reportChange_claimed (n : LineId) (before : Level) (cause : Cause) :
    Claimed s (reportChange n before cause s) := by
  unfold reportChange
  split
  · exact .refl s
  · exact (raise_claimed s _).trans (updLine_claimed _ n _)

theorem lineClaim_claimed (n : LineId) (cause : Cause) (f : Line → Line) : Claimed s (lineClaim n cause f s) :=
  (updLine_claimed s n f).trans (reportChange_claimed _ n _ cause)

theorem leaseEndReport_claimed (n : LineId) (m : MasterId) (reason : LeaseReason) :
    Claimed s (leaseEndReport n m reason s) := by
  unfold leaseEndReport
  dsimp only
  split
  · exact raise_claimed s _
  · exact (raise_claimed s _).trans (setFlag_claimed _ m _)

theorem endLease_claimed (n : LineId) (reason : LeaseReason) (cause : Cause) :
    Claimed s (endLease n reason cause s) := by
  unfold endLease
  split
  · exact .refl s
  · exact ((updLine_claimed s n _).trans (leaseEndReport_claimed _ n _ reason)).trans
      (reportChange_claimed _ n _ cause)

theorem lineClear_claimed (n : LineId) (reason : LeaseReason) (cause : Cause) (before : Level) :
    Claimed s (lineClear n reason cause before s) := by
  unfold lineClear
  refine Claimed.trans ?_ (reportChange_claimed _ n _ cause)
  split
  · exact updLine_claimed s n _
  · exact (updLine_claimed s n _).trans (leaseEndReport_claimed _ n _ reason)

theorem removeFromLine_claimed (m : MasterId) (r : RemovalReason) (n : LineId) :
    Claimed s (removeFromLine m r s n) := by
  unfold removeFromLine
  split
  · split
    · exact lineClaim_claimed s n _ _
    · exact .refl s
  · split
    · exact endLease_claimed s n _ _
    · exact .refl s
  · exact .refl s
  · exact .refl s

theorem removeFromLines_claimed (m : MasterId) (r : RemovalReason) : Claimed s (removeFromLines m r s) :=
  .foldl (fun s n => removeFromLine_claimed s m r n) allLines s

/-! ### The Proposal Table -/

theorem returnToEditing_claimed : Claimed s (returnToEditing s) := by
  unfold returnToEditing
  split
  · exact setSession_claimed s _
  · exact .refl s

theorem endEntry_claimed (e : Entry) (out : EntryOutcome) : Claimed s (endEntry e out s) := by
  have left := (setTable_claimed s (s.table.filter fun x => x.id ≠ e.id)).trans
    (raise_claimed _ (.proposalEnded e.id e.subject e.action out e.voters))
  unfold endEntry
  dsimp only
  split
  · exact left.trans (returnToEditing_claimed _)
  · exact left

theorem takeVote_claimed (m : MasterId) (e : Entry) : Claimed s (takeVote m e s) := by
  unfold takeVote
  dsimp only
  split
  · exact endEntry_claimed s _ _
  · split <;> exact setTable_claimed s _

theorem removeVote_claimed (m : MasterId) (e : Entry) : Claimed s (removeVote m s e) := by
  unfold removeVote
  split
  · exact takeVote_claimed s m e
  · exact .refl s

theorem removeVotes_claimed (m : MasterId) : Claimed s (removeVotes m s) :=
  .foldl (fun s e => removeVote_claimed s m e) s.table s

theorem cancelOn_claimed (sub : Subject) : Claimed s (cancelOn sub s) := by
  unfold cancelOn
  split
  · exact .refl s
  · exact endEntry_claimed s _ _

theorem openEntry_claimed (e : Entry) : Claimed s (openEntry e s) := by
  have placed : Claimed s { s with table := s.table ++ [e], nextId := nextIdAfter e.id } :=
    .of_told rfl fun _ => .same
  exact placed.trans (raise_claimed _ _)

theorem putEntry_claimed (e : Entry) : Claimed s (s.putEntry e) := setTable_claimed s _

/-! ### Sessions, masters and ports -/

theorem endSession_claimed : Claimed s (endSession s) := by
  unfold endSession
  split
  · exact (setSession_claimed s _).trans (cancelOn_claimed _ _)
  · exact setSession_claimed s _

theorem endSessionOf_claimed (m : MasterId) : Claimed s (endSessionOf m s) := by
  unfold endSessionOf
  split
  · exact endSession_claimed s
  · exact .refl s

theorem removalFanOut_claimed (m : MasterId) (r : RemovalReason) : Claimed s (removalFanOut m r s) :=
  ((removeFromLines_claimed s m r).trans (endSessionOf_claimed _ m)).trans (removeVotes_claimed _ m)

theorem raiseMasterChanged_claimed (m : MasterId) (c : MasterChange) : Claimed s (raiseMasterChanged m c s) :=
  raise_claimed s _

theorem quarantineMaster_claimed (m : MasterId) : Claimed s (quarantineMaster m s) :=
  (((setQuarantined_claimed s m true).trans (removalFanOut_claimed _ m _)).trans (setFlag_claimed _ m _)).trans
    (raiseMasterChanged_claimed _ m _)

theorem reinstateMaster_claimed (m : MasterId) : Claimed s (reinstateMaster m s) :=
  (setQuarantined_claimed s m false).trans (raiseMasterChanged_claimed _ m _)

theorem noticeLostInTransmission_claimed (p : PortId) : Claimed s (noticeLostInTransmission p s) := by
  unfold noticeLostInTransmission
  split
  · exact setFlag_claimed s p _
  · exact .refl s

theorem switchPort_claimed (old new : PortSet) (p : PortId) : Claimed s (switchPort old new s p) := by
  unfold switchPort
  split
  · exact (noticeLostInTransmission_claimed s p).trans (goOff_claimed _ p)
  · split
    · unfold enablePort
      split
      · exact startLink_claimed s p
      · exact .refl s
    · exact .refl s

theorem switchPorts_claimed (old new : PortSet) : Claimed s (switchPorts old new s) :=
  .foldl (fun s p => switchPort_claimed s old new p) allMasters s

/-! ### Carrying -/

theorem applyLine_claimed (old new : Configuration) (n : LineId) : Claimed s (applyLine old new s n) := by
  unfold applyLine
  split
  · exact .refl s
  · exact ((updLine_claimed s n _).trans (lineClear_claimed _ n _ _ _)).trans (cancelOn_claimed _ _)

theorem applyConfig_claimed (sh : Configuration) (rev : W16) : Claimed s (applyConfig sh rev s) := by
  have counted : Claimed s { s with generation := s.generation + 1#16, config := sh } :=
    .of_told rfl fun _ => .same
  unfold applyConfig
  dsimp only
  refine .trans ?_ (setSession_claimed _ _)
  refine .trans ?_ (raise_claimed _ _)
  refine .trans ?_ (switchPorts_claimed _ _ _)
  exact counted.trans (.foldl (fun s n => applyLine_claimed s _ sh n) allLines _)

end Sys2Proof.Machine
end

section
/-! PROOFS. What an owning unit's answer to a request can do to the state (R141): a claim, a commanded restart after a
claim, or one of the three effects of READ_STATUS, SUBSCRIBE and RESYNC. -/

namespace Sys2Proof.Machine

open Sys2Proof

/-- A claim, or a claim that a commanded restart follows (R42). -/
inductive Decided (s : State) : State → Prop
  | claimed {t : State} (h : Claimed s t) : Decided s t
  | restarted {t : State} (h : Claimed s t) : Decided s (commandedRestart t)

theorem Decided.refl (s : State) : Decided s s := .claimed (.refl s)

theorem Claimed.decided {s t u : State} (first : Claimed s t) (second : Decided t u) : Decided s u := by
  cases second with
  | claimed h => exact .claimed (first.trans h)
  | restarted h => exact .restarted (first.trans h)

variable (s : State)

/-! ### Carrying and proposals -/

theorem handOff_claimed (e : Entry) (other : e.action ≠ .restart) : Claimed s (handOff e s) := by
  unfold handOff
  split
  case h_1 => exact lineClaim_claimed s _ _ _
  case h_2 => exact lineClaim_claimed s _ _ _
  case h_3 => exact lineClaim_claimed s _ _ _
  case h_4 => exact quarantineMaster_claimed s _
  case h_5 => exact reinstateMaster_claimed s _
  case h_6 =>
    split
    · exact applyConfig_claimed s _ _
    · exact .refl s
  case h_7 _ restart => exact absurd restart other
  case h_8 => exact .refl s

theorem handOff_restart (e : Entry) (restart : e.action = .restart) : Decided s (handOff e s) := by
  unfold handOff
  rw [restart]
  cases e.subject with
  | part => exact .restarted (.refl s)
  | _ => exact .refl s

theorem carry_decided (e : Entry) : Decided s (carry e s) := by
  unfold carry
  split
  next restart => exact handOff_restart s e restart
  next other => exact .claimed ((handOff_claimed s e other).trans (endEntry_claimed _ e _))

theorem countVotes_decided (e : Entry) : Decided s (countVotes e s).1 := by
  unfold countVotes
  split
  · exact .refl s
  · split
    · exact .refl s
    · split
      · exact .claimed (putEntry_claimed s _)
      · exact carry_decided s e

theorem openAndCount_decided (m : MasterId) (sub : Subject) (act : Action) (dur rev : Option W16) :
    Decided s (openAndCount m sub act dur rev s).1 :=
  (openEntry_claimed s _).decided (countVotes_decided _ _)

/-! ### The checks of a PROPOSE -/

theorem proposalValid_of_checkLine {n : LineId} {act : Action} {arg : W16} (m : MasterId)
    (passes : checkLineProposal s n act arg = none) : proposalValid s m act arg (.line n) := by
  unfold checkLineProposal at passes
  dsimp only at passes
  split_ifs at passes with policy no_pulses range
  refine ⟨not_not.mp policy, fun pulse => ?_⟩
  simpa [pulse, pulseDurationOk_iff] using range

theorem proposalValid_of_checkMaster {m k : MasterId} {act : Action} (arg : W16)
    (passes : checkMasterProposal s m k act = none) : proposalValid s m act arg (.master k) := by
  unfold checkMasterProposal at passes
  split_ifs at passes with self marked unmarked
  refine ⟨fun quarantine => ?_, fun reinstate => ?_⟩
  · simp only [quarantine, true_and, Bool.not_eq_true] at self marked
    exact ⟨self, marked⟩
  · simpa [reinstate] using unmarked

theorem State.tableFull_iff : s.tableFull = true ↔ 12 ≤ s.table.length := decide_eq_true_iff

/-! ### The effect of a request -/

/-- What a request of master m can do, with what has been checked before it does so. The first constructor is a read
and every refusal; then come the direct requests (chapter 3), the proposals (chapter 2), the sessions (chapter 6) and
the status requests (chapter 8). -/
inductive RequestEffect (m : MasterId) (s : State) : State → Prop
  | kept : RequestEffect m s s
  | asserted (n : LineId) (free : (s.master m).quarantined = false) (shared : (s.line n).cfg.policy = .shared)
      (unheld : s.held = false) : RequestEffect m s (lineClaim n .direct (Line.addAssertion m) s)
  | dropped (n : LineId) (shared : (s.line n).cfg.policy = .shared) :
      RequestEffect m s (lineClaim n .direct (Line.dropAssertion m) s)
  | activated (n : LineId) (leased : (s.line n).cfg.policy = .leased) (owner : (s.line n).owner = some m) :
      RequestEffect m s (lineClaim n .direct Line.commandActive s)
  | released (n : LineId) (leased : (s.line n).cfg.policy = .leased) (owner : (s.line n).owner = some m) :
      RequestEffect m s (lineClaim n .direct Line.commandReleased s)
  | leased (n : LineId) (d : W16) (free : (s.master m).quarantined = false)
      (leased : (s.line n).cfg.policy = .leased)
      (available : (s.line n).owner = none ∨ (s.line n).owner = some m) :
      RequestEffect m s (s.updLine n (Line.takeLease m s.count d))
  | relinquished (n : LineId) (owner : (s.line n).owner = some m) :
      RequestEffect m s (endLease n .relinquished .direct s)
  | pulsed (n : LineId) (d : W16) (leased : (s.line n).cfg.policy = .leased) (owner : (s.line n).owner = some m)
      (unheld : s.held = false) : RequestEffect m s (lineClaim n .direct (Line.startPulse s.count d) s)
  | voted (sub : Subject) (act : Action) (arg : W16) (e : Entry) (free : (s.master m).quarantined = false)
      (found : s.entryOn sub = some e) (same : e.sameProposal act arg = true)
      (valid : sub ≠ .config → proposalValid s m act arg sub) (first : hasBit e.voters m.val = false) :
      RequestEffect m s (countVotes (withVote m e) (s.putEntry (withVote m e))).1
  | opened (sub : Subject) (act : Action) (arg : W16) (pairs : pairing sub act = true)
      (free : (s.master m).quarantined = false) (valid : proposalValid s m act arg sub)
      (vacant : s.entryOn sub = none) (room : s.table.length < 12) :
      RequestEffect m s (openAndCount m sub act (keptDuration act arg) none s).1
  | superseded (sub : Subject) (act : Action) (arg : W16) (e : Entry) (pairs : pairing sub act = true)
      (free : (s.master m).quarantined = false) (found : s.entryOn sub = some e)
      (other : e.sameProposal act arg = false) (sole : e.voters = onlyBit m.val)
      (valid : sub ≠ .config → proposalValid s m act arg sub) :
      RequestEffect m s (openAndCount m e.subject act (keptDuration act arg) none (endEntry e .superseded s)).1
  | withdrawn (id : Byte) (e : Entry) (found : s.entryById id = some e) (voter : hasBit e.voters m.val = true) :
      RequestEffect m s (takeVote m e s)
  | sessionOpened (free : (s.master m).quarantined = false) (none : s.session = .none) :
      RequestEffect m s (s.setSession (.editing m s.config 0#16 (s.deadlineIn Config.idleTimeout)))
  | touched : RequestEffect m s (touchSession m s)
  | written (sh sh' : Configuration) (rev : W16) (d : Deadline) (editing : s.session = .editing m sh rev d) :
      RequestEffect m s (s.setSession (.editing m sh' (rev + 1#16) (s.deadlineIn Config.idleTimeout)))
  | committed (sh : Configuration) (rev : W16) (d : Deadline) (free : (s.master m).quarantined = false)
      (editing : s.session = .editing m sh rev d) (room : s.table.length < 12) :
      RequestEffect m s
        (openAndCount m .config .apply none (some rev) (s.setSession (.voting m sh rev))).1
  | closed (owner : s.session.owner? = some m) : RequestEffect m s (endSession s)
  | flagsRead : RequestEffect m s (s.setStat m { s.stat m with flags := 0#11 })
  | subscribed (mask : ClassSet) : RequestEffect m s (s.setStat m { s.stat m with mask := mask })
  | resynced : RequestEffect m s
      ((s.updPort m fun p => { p with stored := { p.stored with valid := false } }).setStat m (s.stat m).onResync)

section

variable {s} {m : MasterId}

theorem reqAssertLine_effect (n : LineId) : RequestEffect m s (reqAssertLine m n s).1 := by
  unfold reqAssertLine
  split
  · exact .kept
  next marked =>
    have free := Bool.eq_false_iff.mpr marked
    split
    next shared =>
      split
      · exact .kept
      next unheld => exact .asserted n free shared (Bool.eq_false_iff.mpr unheld)
    next leased =>
      split
      · exact .kept
      next owner =>
        split
        · exact .kept
        · exact .activated n leased (not_not.mp owner)
    · exact .kept
    · exact .kept

theorem reqReleaseLine_effect (n : LineId) : RequestEffect m s (reqReleaseLine m n s).1 := by
  unfold reqReleaseLine
  split
  · exact .kept
  · split
    next shared => exact .dropped n shared
    next leased =>
      split
      · exact .kept
      next owner => exact .released n leased (not_not.mp owner)
    · exact .kept
    · exact .kept

theorem reqClaimLine_effect (n : LineId) (d : W16) : RequestEffect m s (reqClaimLine m n d s).1 := by
  unfold reqClaimLine
  split_ifs with marked unleased taken range
  · exact .kept
  · exact .kept
  · exact .kept
  · exact .kept
  · exact .leased n d (Bool.eq_false_iff.mpr marked) (not_not.mp unleased) (by tauto)

theorem reqRenewLease_effect (n : LineId) (d : W16) : RequestEffect m s (reqRenewLease m n d s).1 := by
  unfold reqRenewLease
  split_ifs with marked unleased stranger range
  · exact .kept
  · exact .kept
  · exact .kept
  · exact .kept
  · exact .leased n d (Bool.eq_false_iff.mpr marked) (not_not.mp unleased) (.inr (not_not.mp stranger))

theorem reqRelinquishLine_effect (n : LineId) : RequestEffect m s (reqRelinquishLine m n s).1 := by
  unfold reqRelinquishLine
  split_ifs with marked unleased stranger
  · exact .kept
  · exact .kept
  · exact .kept
  · exact .relinquished n (not_not.mp stranger)

theorem reqPulseLine_effect (n : LineId) (d : W16) : RequestEffect m s (reqPulseLine m n d s).1 := by
  unfold reqPulseLine
  split_ifs with marked unleased no_pulses stranger range held
  · exact .kept
  · exact .kept
  · exact .kept
  · exact .kept
  · exact .kept
  · exact .kept
  · exact .pulsed n d (not_not.mp unleased) (not_not.mp stranger) (Bool.eq_false_iff.mpr held)

/-- A vote for an entry that asks for the same thing (R30). -/
theorem proposeVote_effect {sub : Subject} {act : Action} {arg : W16} {e : Entry}
    (free : (s.master m).quarantined = false) (found : s.entryOn sub = some e)
    (same : e.sameProposal act arg = true) (valid : sub ≠ .config → proposalValid s m act arg sub) :
    RequestEffect m s (proposeVote m e s).1 := by
  by_cases voter : hasBit e.voters m.val = true
  · rw [proposeVote, if_pos voter]; exact .kept
  · have first := Bool.eq_false_iff.mpr voter
    rw [proposeVote_new s m e first]
    exact .voted sub act arg e free found same valid first

/-- A proposal that differs from the entry on its subject (R32, R33). -/
theorem proposeOther_effect {sub : Subject} {act : Action} {arg : W16} {e : Entry}
    (pairs : pairing sub act = true) (free : (s.master m).quarantined = false) (found : s.entryOn sub = some e)
    (other : e.sameProposal act arg = false) (valid : sub ≠ .config → proposalValid s m act arg sub) :
    RequestEffect m s (proposeOther m e act arg s).1 := by
  unfold proposeOther
  split
  next sole => exact .superseded sub act arg e pairs free found other sole valid
  · exact .kept

theorem proposeToTable_effect {sub : Subject} {act : Action} {arg : W16} (pairs : pairing sub act = true)
    (free : (s.master m).quarantined = false) (valid : proposalValid s m act arg sub) :
    RequestEffect m s (proposeToTable m sub act arg s).1 := by
  unfold proposeToTable
  split
  next vacant =>
    unfold proposeFresh
    split
    · exact .kept
    next room => exact .opened sub act arg pairs free valid vacant (Nat.not_le.mp (mt s.tableFull_iff.mpr room))
  next e found =>
    split
    next same => exact proposeVote_effect free found same fun _ => valid
    next other => exact proposeOther_effect pairs free found (Bool.eq_false_iff.mpr other) fun _ => valid

theorem proposeConfig_effect {act : Action} {arg : W16} (pairs : pairing .config act = true)
    (free : (s.master m).quarantined = false) : RequestEffect m s (proposeConfig m act arg s).1 := by
  unfold proposeConfig
  split
  · exact .kept
  next e found =>
    split
    · exact .kept
    · split
      next same => exact proposeVote_effect free found same fun config => absurd rfl config
      next other =>
        exact proposeOther_effect pairs free found (Bool.eq_false_iff.mpr other) fun config => absurd rfl config

theorem reqPropose_effect {sub : Subject} {act : Action} (arg : W16) (pairs : pairing sub act = true) :
    RequestEffect m s (reqPropose m sub act arg s).1 := by
  unfold reqPropose
  split
  · exact .kept
  next marked =>
    have free := Bool.eq_false_iff.mpr marked
    cases sub with
    | line n =>
      dsimp only
      split
      · exact .kept
      next passes => exact proposeToTable_effect pairs free (proposalValid_of_checkLine s m passes)
    | master k =>
      dsimp only
      split
      · exact .kept
      next passes => exact proposeToTable_effect pairs free (proposalValid_of_checkMaster s arg passes)
    | config => exact proposeConfig_effect pairs free
    | part => exact proposeToTable_effect pairs free trivial

theorem reqWithdraw_effect (id : Byte) : RequestEffect m s (reqWithdraw m id s).1 := by
  unfold reqWithdraw
  split
  · exact .kept
  · split
    · exact .kept
    next e found =>
      split
      next voter => exact .withdrawn id e found voter
      · exact .kept

theorem reqOpenConfig_effect : RequestEffect m s (reqOpenConfig m s).1 := by
  unfold reqOpenConfig
  split
  · exact .kept
  next marked =>
    split
    next none => exact .sessionOpened (Bool.eq_false_iff.mpr marked) none
    · exact .touched
    · exact .kept

theorem takeWrite_effect (bad : Option Nat) (write : Configuration → Configuration) :
    RequestEffect m s (takeWrite m bad write s).1 := by
  unfold takeWrite
  split
  · exact .kept
  · split
    · exact .kept
    next o sh rev d editing =>
      split
      · exact .kept
      next owner =>
        obtain rfl := not_not.mp owner
        split
        · exact .touched
        · split
          · exact .touched
          · exact .written sh _ rev d editing
    · split <;> exact .kept

theorem reqCommitConfig_effect : RequestEffect m s (reqCommitConfig m s).1 := by
  unfold reqCommitConfig
  split
  · exact .kept
  next marked =>
    split
    · exact .kept
    next o sh rev d editing =>
      split
      · exact .kept
      next owner =>
        obtain rfl := not_not.mp owner
        split
        · exact .touched
        next room =>
          exact .committed sh rev d (Bool.eq_false_iff.mpr marked) editing
            (Nat.not_le.mp (mt s.tableFull_iff.mpr room))
    · split <;> exact .kept

theorem reqCloseConfig_effect : RequestEffect m s (reqCloseConfig m s).1 := by
  unfold reqCloseConfig
  split
  · exact .kept
  · split
    next owner => exact .closed owner
    · exact .kept

theorem reqReadShadow_effect (t : Target) : RequestEffect m s (reqReadShadow m t s).1 := by
  unfold reqReadShadow
  split
  · exact .kept
  · exact .touched
  · exact .kept

/-- The effect of every request that a packet can spell. -/
theorem dispatch_effect (admitted : Bool) {q : Request} (spelled : q.wellFormed = true) :
    RequestEffect m s (dispatch m admitted q s).1 := by
  cases q with
  | readStatus => exact .flagsRead
  | readLines => exact .kept
  | readLine n => exact .kept
  | readProposals start => exact .kept
  | readConfig t => exact .kept
  | readShadow t => exact reqReadShadow_effect t
  | heartbeat => exact .kept
  | subscribe mask => exact .subscribed mask
  | resync => exact .resynced
  | assertLine n => exact reqAssertLine_effect n
  | releaseLine n => exact reqReleaseLine_effect n
  | claimLine n d => exact reqClaimLine_effect n d
  | renewLease n d => exact reqRenewLease_effect n d
  | relinquishLine n => exact reqRelinquishLine_effect n
  | pulseLine n d => exact reqPulseLine_effect n d
  | propose sub act arg => exact reqPropose_effect arg spelled
  | withdraw id => exact reqWithdraw_effect id
  | openConfig => exact reqOpenConfig_effect
  | writeLineConfig n sel b => exact takeWrite_effect _ _
  | writeGlobalConfig sel b => exact takeWrite_effect _ _
  | commitConfig => exact reqCommitConfig_effect
  | closeConfig => exact reqCloseConfig_effect

end

/-! ### The effect in the fields of the state -/

theorem touchSession_claimed (m : MasterId) : Claimed s (touchSession m s) := by
  unfold touchSession
  split
  · split
    · exact setSession_claimed s _
    · exact .refl s
  · exact .refl s

/-- The effect of a request, by the fields it writes: the three status requests are the ones that write a status
record otherwise than by telling its master something. -/
inductive RequestWrites (m : MasterId) (s : State) : State → Prop
  | decided {t : State} (h : Decided s t) : RequestWrites m s t
  | flagsRead : RequestWrites m s (s.setStat m { s.stat m with flags := 0#11 })
  | subscribed (mask : ClassSet) : RequestWrites m s (s.setStat m { s.stat m with mask := mask })
  | resynced : RequestWrites m s
      ((s.updPort m fun p => { p with stored := { p.stored with valid := false } }).setStat m (s.stat m).onResync)

theorem RequestEffect.writes {m : MasterId} {s t : State} (h : RequestEffect m s t) : RequestWrites m s t := by
  cases h with
  | kept => exact .decided (.refl s)
  | asserted n => exact .decided (.claimed (lineClaim_claimed s n _ _))
  | dropped n => exact .decided (.claimed (lineClaim_claimed s n _ _))
  | activated n => exact .decided (.claimed (lineClaim_claimed s n _ _))
  | released n => exact .decided (.claimed (lineClaim_claimed s n _ _))
  | leased n d => exact .decided (.claimed (updLine_claimed s n _))
  | relinquished n => exact .decided (.claimed (endLease_claimed s n _ _))
  | pulsed n d => exact .decided (.claimed (lineClaim_claimed s n _ _))
  | voted sub act arg e => exact .decided ((putEntry_claimed s _).decided (countVotes_decided _ _))
  | opened sub act arg => exact .decided (openAndCount_decided s m sub act _ _)
  | superseded sub act arg e =>
    exact .decided ((endEntry_claimed s e _).decided (openAndCount_decided _ m _ act _ _))
  | withdrawn id e => exact .decided (.claimed (takeVote_claimed s m e))
  | sessionOpened => exact .decided (.claimed (setSession_claimed s _))
  | touched => exact .decided (.claimed (touchSession_claimed s m))
  | written => exact .decided (.claimed (setSession_claimed s _))
  | committed sh rev d =>
    exact .decided ((setSession_claimed s _).decided (openAndCount_decided _ m _ _ _ _))
  | closed => exact .decided (.claimed (endSession_claimed s))
  | flagsRead => exact .flagsRead
  | subscribed mask => exact .subscribed mask
  | resynced => exact .resynced

/-! ### Commanded restart -/

/-- The line clears of a commanded restart are claims (R19). -/
theorem restartLines_claimed (ns : List LineId) : Claimed s (ns.foldl restartLine s) :=
  .foldl (fun s n => lineClear_claimed s n _ _ _) ns s

/-- A commanded restart writes the lines and the decision state (R19, R42). -/
theorem commandedRestart_frame :
    commandedRestart s = { s with
      lines := (commandedRestart s).lines, table := [], nextId := 1#8, session := .none,
      masters := (commandedRestart s).masters, status := (commandedRestart s).status, lastRestart := .commanded } := by
  unfold commandedRestart
  rw [foldl_restartLine_frame]

@[simp] theorem commandedRestart_hold : (commandedRestart s).hold = s.hold := by rw [commandedRestart_frame]

/-- A commanded restart leaves the ports (R153). -/
@[simp] theorem commandedRestart_port (p : PortId) : (commandedRestart s).port p = s.port p := by
  have kept : (commandedRestart s).ports = s.ports := by rw [commandedRestart_frame]
  exact congrArg (fun ports => ports.get p) kept

/-- A master record after a commanded restart (R105). -/
@[simp] theorem commandedRestart_master (m : MasterId) :
    (commandedRestart s).master m = (s.master m).onRestart := by
  show (eachRecord Master.onRestart (allLines.foldl restartLine s).masters).get m = _
  rw [get_eachRecord, foldl_restartLine_frame]
  rfl

/-- A status record after a commanded restart (R169). -/
@[simp] theorem commandedRestart_stat (m : MasterId) :
    (commandedRestart s).stat m = ⟨restartedAlone, 0#6, [], (s.stat m).seq⟩ := by
  show (eachRecord StatusRecord.onRestart (allLines.foldl restartLine s).status).get m = _
  rw [get_eachRecord, ← ((restartLines_claimed s allLines).told m).seq]
  rfl

/-- Nothing that is decided moves the HOLD conditioner. -/
theorem Decided.hold {s t : State} (h : Decided s t) : t.hold = s.hold := by
  cases h with
  | claimed h => exact h.hold
  | restarted h => rw [commandedRestart_hold, h.hold]

end Sys2Proof.Machine
end

section
/-! PROOFS. Decoding gives requests that a packet can spell, and what a predicate of the state must stand for every
command to keep it: packets, characters and links are taken apart here once. -/

namespace Sys2Proof.Machine

open Sys2Proof

/-! ### Decoded requests -/

theorem onLine_ok {b : Byte} {f : LineId → Request} {q : Request} (decoded : onLine b f = .ok q) :
    ∃ n, q = f n := by
  unfold onLine at decoded
  split at decoded
  next n _ => exact ⟨n, (Except.ok.inj decoded).symm⟩
  · nomatch decoded

theorem onTarget_ok {b : Byte} {f : Target → Request} {q : Request} (decoded : onTarget b f = .ok q) :
    ∃ t, q = f t := by
  unfold onTarget at decoded
  split at decoded
  next t _ => exact ⟨t, (Except.ok.inj decoded).symm⟩
  · nomatch decoded

/-- An action is found in a pairing of R22 alone. -/
theorem pairing_of_actionOf {sub : Subject} {b : Byte} {act : Action} (found : actionOf sub b = some act) :
    pairing sub act = true := by
  cases sub <;> simp only [actionOf] at found <;> split_ifs at found <;> cases found <;> rfl

theorem decodePropose_ok {kind index action : Byte} {arg : W16} {q : Request}
    (decoded : decodePropose kind index action arg = .ok q) : q.wellFormed = true := by
  unfold decodePropose at decoded
  split at decoded
  · nomatch decoded
  · split at decoded
    · nomatch decoded
    next found =>
      cases decoded
      exact pairing_of_actionOf found

/-- Decoding gives a request that a packet can spell (R22, R140). -/
theorem wellFormed_of_decodeFields {code : RequestCode} {params : List Byte} {q : Request}
    (length : params.length = code.paramLength) (decoded : decodeFields code params = .ok q) :
    q.wellFormed = true := by
  cases code with
  | readStatus | readLines | heartbeat | resync | openConfig | commitConfig | closeConfig =>
    obtain rfl := List.eq_nil_of_length_eq_zero length
    cases Except.ok.inj decoded
    rfl
  | readProposals | subscribe | withdraw =>
    obtain ⟨b, rfl⟩ := List.length_eq_one_iff.mp length
    cases Except.ok.inj decoded
    rfl
  | readLine | assertLine | releaseLine | relinquishLine =>
    obtain ⟨b, rfl⟩ := List.length_eq_one_iff.mp length
    obtain ⟨n, rfl⟩ := onLine_ok decoded
    rfl
  | readConfig | readShadow =>
    obtain ⟨b, rfl⟩ := List.length_eq_one_iff.mp length
    obtain ⟨t, rfl⟩ := onTarget_ok decoded
    rfl
  | claimLine | renewLease | pulseLine =>
    obtain ⟨b, d1, d0, rfl⟩ := List.length_eq_three.mp length
    obtain ⟨n, rfl⟩ := onLine_ok decoded
    rfl
  | propose =>
    match params, length with
    | [k, i, a, g1, g0], _ => exact decodePropose_ok decoded
  | writeLineConfig =>
    match params, length with
    | [b, sel, pol, quo, safe, p1, p0, l1, l0, fb, st], _ =>
      obtain ⟨n, rfl⟩ := onLine_ok decoded
      rfl
  | writeGlobalConfig =>
    match params, length with
    | [sel, t1, t0, w1, w0, qq, rq, cq, ports], _ =>
      cases Except.ok.inj decoded
      rfl

/-- The effect of a request that has been accepted and is no duplicate (R135 steps 5 and 6). -/
theorem execute_effect (p : MasterId) (admitted : Bool) (q : RawRequest) (s : State) :
    RequestEffect p s (execute p admitted q s).1 := by
  unfold execute
  split
  · exact .kept
  next r decoded =>
    refine dispatch_effect admitted ?_
    unfold decodeRequest at decoded
    split at decoded
    · nomatch decoded
    · split at decoded
      · nomatch decoded
      next length => exact wellFormed_of_decodeFields (not_not.mp length) decoded

/-- The master of an accepted request is PRESENT (R87, R88). -/
theorem renew_present (p : PortId) (src : Byte) (s : State) :
    ((renew p src s).master p).presence = .present := by
  rw [(renew_renewed s p src).requester]

theorem ite_keeps {I : State → Prop} {c : Prop} [Decidable c] {s t : State} (h : I s) (due : c → I t) :
    I (if c then t else s) := by
  split
  next holds => exact due holds
  · exact h

/-! ### Predicates that packets and links keep -/

/-- A predicate of the state that does not read the ports is kept by packets, characters and links, when flags,
renewals, the effects of requests and the beginning of a notice keep it. -/
structure KeptByPorts (I : State → Prop) : Prop where
  ports : ∀ (s : State) (ps : Vector Port 4), I s → I { s with ports := ps }
  flag : ∀ (m : MasterId) (f : Flag) (s : State), I s → I (setFlag m f s)
  renewed : ∀ (p : PortId) (src : Byte) (s : State), I s → I (renew p src s)
  effect : ∀ (p : MasterId) (s t : State), (s.master p).presence = .present → RequestEffect p s t → I s → I t
  began : ∀ (p : PortId) (nt : Notice) (rest : List Notice) (s : State), (s.stat p).queue = nt :: rest → I s →
    I (s.setStat p ((s.stat p).beginNotice rest))

namespace KeptByPorts

variable {I : State → Prop} (kept : KeptByPorts I) {s : State} (p : PortId)

include kept

theorem updPort (f : Port → Port) (h : I s) : I (s.updPort p f) := kept.ports s _ h

theorem setAssembly (a : Assembly) (h : I s) : I (s.setAssembly p a) := kept.updPort p _ h

theorem discardPacket (f : Flag) (h : I s) : I (discardPacket p f s) :=
  kept.flag p f _ (kept.setAssembly p _ h)

theorem acceptRequest (q : RawRequest) (h : I s) : I (acceptRequest p q s) := by
  have renewed := kept.renewed p q.source s h
  unfold Machine.acceptRequest
  dsimp only
  split
  · exact kept.updPort p _ renewed
  · exact kept.updPort p _ (kept.effect p _ _ (renew_present p _ s) (execute_effect p _ q _) renewed)

theorem processPacket (bytes : List Byte) (h : I s) : I (processPacket p bytes s) := by
  unfold Machine.processPacket
  split
  · exact kept.flag p _ s h
  · split
    · exact kept.flag p _ s h
    · split
      · exact kept.flag p _ s h
      · exact kept.acceptRequest p _ h

theorem completePacket (bytes : List Byte) (h : I s) : I (completePacket p bytes s) := by
  unfold Machine.completePacket
  split
  · exact kept.setAssembly p _ (kept.processPacket p bytes h)
  · exact kept.setAssembly p _ h

theorem takeChar (c : RxChar) (waiting : (s.port p).assembly.state ≠ .waiting) (h : I s) :
    I (takeChar p c s) := by
  have taken := takeChar_taken s p c waiting
  generalize Machine.takeChar p c s = t at taken ⊢
  cases taken with
  | first b _ | next b _ _ | tooMany b _ _ | waits _ _ _ => exact kept.ports s _ h
  | dropped b _ | empty _ => exact h
  | short _ _ | long _ | failed _ => exact kept.flag p _ _ (kept.ports s _ h)
  | processed _ _ _ => exact kept.ports _ _ (kept.processPacket p _ h)

theorem drain (k : Nat) (h : I s) : I (drain p k s) := by
  induction k generalizing s with
  | zero => exact h
  | succ k ih =>
    unfold Machine.drain
    split
    · exact h
    next waiting =>
      split
      · exact h
      · refine ih (kept.takeChar p _ ?_ (kept.updPort p _ h))
        rwa [State.updPort_port_same]

theorem processWaiting (h : I s) : I (processWaiting p s) := by
  unfold Machine.processWaiting
  split
  · exact kept.drain p _ (kept.completePacket p _ h)
  · exact h

theorem requestEvent (src tag : Byte) (code : RequestCode) (params : List Byte) (h : I s) :
    I (requestEvent p src tag code params s) := by
  unfold Machine.requestEvent
  split
  · exact kept.completePacket p _ h
  · exact h

theorem enterQuiet (h : I s) : I (enterQuiet p s) := by
  have quiet := kept.updPort p Port.toQuiet h
  unfold Machine.enterQuiet
  have trimmed := ite_keeps (c := (trimBuffer (s.port p).rx).length < (s.port p).rx.length) quiet
    fun _ => kept.flag p .truncated _ quiet
  exact ite_keeps trimmed fun _ => kept.discardPacket p _ trimmed

theorem loseTransmission (h : I s) : I (loseTransmission p s) := by
  refine kept.updPort p _ ?_
  unfold noticeLostInTransmission
  split
  · exact kept.flag p _ s h
  · exact h

theorem linkError (h : I s) : I (linkError p s) := by
  unfold Machine.linkError
  split
  · exact h
  · exact h
  · exact kept.updPort p _ h
  · exact kept.enterQuiet p h
  · have lost := kept.processWaiting p (kept.loseTransmission p (kept.flag p .linkError s h))
    unfold quietFromUp
    split
    · exact kept.enterQuiet p lost
    · exact lost

theorem receiveChar (c : RxChar) (h : I s) : I (receiveChar p c s) := by
  unfold Machine.receiveChar
  split
  · exact h
  · exact h
  · exact h
  · exact kept.linkError p h
  · split
    · exact kept.linkError p h
    · exact kept.drain p _ (kept.updPort p _ h)

theorem receiveGrantChar (h : I s) : I (receiveGrantChar p s) := by
  unfold Machine.receiveGrantChar
  split
  · exact h
  · exact h
  · exact h
  · exact kept.updPort p _ h
  · split
    · exact kept.updPort p _ h
    · exact kept.linkError p h

theorem receiveIdleChar (h : I s) : I (receiveIdleChar p s) := by
  unfold Machine.receiveIdleChar
  split
  · exact h
  · exact h
  · exact kept.updPort p _ h
  · exact kept.updPort p _ h
  · exact kept.updPort p _ h

theorem holdoffReached (h : I s) : I (holdoffReached p s) := by
  unfold Machine.holdoffReached
  split
  · exact kept.updPort p _ h
  · exact h

theorem handshakeReached (h : I s) : I (handshakeReached p s) := by
  unfold Machine.handshakeReached
  split
  · exact kept.linkError p h
  · exact h

theorem disconnectReached (h : I s) : I (disconnectReached p s) := by
  unfold Machine.disconnectReached
  split
  · exact kept.linkError p h
  · exact kept.linkError p h
  · exact h

theorem endSent (h : I s) : I (endSent p s) := by
  unfold Machine.endSent
  split
  · exact kept.updPort p _ h
  · exact h

theorem beginPacket {t : State} (sent : beginPacket p s = .next t) (h : I s) : I t := by
  unfold Machine.beginPacket at sent
  split at sent
  · cases sent; exact kept.updPort p _ h
  · split at sent
    · cases sent; exact kept.updPort p _ h
    next nt rest queue =>
      split at sent
      · nomatch sent
      · cases sent; exact kept.updPort p _ (kept.began p nt rest s queue h)

theorem transmit {t : State} (sent : transmit p s = .next t) (h : I s) : I t := by
  unfold Machine.transmit at sent
  dsimp only at sent
  split at sent
  · cases sent; exact h
  · cases sent; exact h
  · cases sent; exact kept.updPort p _ h
  · split at sent <;> cases sent <;> exact kept.updPort p _ h
  · split at sent
    · cases sent; exact kept.updPort p _ h
    · split at sent
      · cases sent; exact kept.updPort p _ h
      · split at sent
        · cases sent; exact kept.updPort p _ h
        · exact kept.beginPacket p sent h

end KeptByPorts

/-! ### Predicates that every command keeps -/

/-- A predicate is kept by every command when, besides what ports do, the events of the pins and of the time base keep
it. Each event comes with what makes it due. -/
structure KeptByEvents (I : State → Prop) : Prop extends KeptByPorts I where
  resetAsserted : ∀ s : State, I s → I (assertReset s)
  resetReleased : ∀ (cfgsel : Level) (adrs : Byte) (holdPin : Level) (fbkPins : W16) (s : State), I s →
    I { State.afterPinReset cfgsel adrs holdPin fbkPins with pending := s.pending }
  counted : ∀ (s : State) (c : W32), I s → I { s with count := c }
  holdInput : ∀ (s : State) (raw : Level) (measuring : Option Nat), I s →
    I { s with hold := ⟨raw, s.hold.qualified, measuring⟩ }
  holdAsserted : ∀ s : State, s.rstn = .high → s.hold.qualified = .released → I s → I (holdAssertedEvent s)
  holdReleased : ∀ s : State, s.rstn = .high → s.hold.qualified = .asserted → I s → I (holdReleasedEvent s)
  feedbackPin : ∀ (s : State) (v : Vector Level 16), I s → I { s with fbk := v }
  feedbackInput : ∀ (n : LineId) (level : Level) (s : State), I s → I (inputChanged n level s)
  pulseEnded : ∀ (n : LineId) (s : State), (s.line n).pulse.isSome = true → I s →
    I (lineClaim n .pulseEnd Line.commandReleased s)
  leaseEnded : ∀ (n : LineId) (s : State), (s.line n).lease.isSome = true → I s →
    I (endLease n .expired .leaseEnd s)
  settled : ∀ (n : LineId) (s : State), (s.line n).settle.isSome = true → I s → I (settleReached n s)
  expired : ∀ (m : MasterId) (s : State), (s.master m).deadline.isSome = true → I s → I (expireMaster m s)
  entryExpired : ∀ (id : Byte) (e : Entry) (s : State), s.entryById id = some e → I s → I (endEntry e .expired s)
  idleEnded : ∀ (o : MasterId) (sh : Configuration) (rev : W16) (d : Deadline) (s : State),
    s.session = .editing o sh rev d → I s → I (s.setSession .none)

theorem whenRunning_keeps {I : State → Prop} {f : State → State} {s : State}
    (h : I s) (running : s.rstn = .high → I (f s)) : I (whenRunning f s) := by
  unfold whenRunning
  split
  · exact h
  next high => exact running high

/-- A deadline that is due is present. -/
theorem State.isSome_of_due {s : State} {d : Option Deadline} (due : s.due d = true) : d.isSome = true := by
  cases d with
  | none => nomatch due
  | some _ => rfl

namespace KeptByEvents

variable {I : State → Prop} (kept : KeptByEvents I)

include kept

theorem holdInputChange {level : Level} {s t : State} (taken : execHoldInputChange level s = .next t) (h : I s) :
    I t := by
  unfold execHoldInputChange at taken
  split at taken
  · cases taken; exact h
  · split at taken <;> cases taken <;> exact kept.holdInput s _ _ h

theorem feedbackInputChange {n : LineId} {level : Level} {s t : State}
    (taken : execFeedbackInputChange n level s = .next t) (h : I s) : I t := by
  unfold execFeedbackInputChange at taken
  split at taken
  · cases taken; exact h
  · split at taken <;> cases taken
    · exact kept.feedbackPin s _ h
    · exact kept.feedbackInput n level s h

theorem transmitCharacter {p : PortId} {s t : State} (sent : execTransmitCharacter p s = .next t) (h : I s) :
    I t := by
  unfold execTransmitCharacter at sent
  split at sent
  · cases sent; exact h
  · exact kept.transmit p sent h

theorem entryDeadlineEvent (id : Byte) {s : State} (h : I s) : I (entryDeadlineEvent id s) := by
  unfold Machine.entryDeadlineEvent
  split
  · exact h
  next e found => exact ite_keeps h fun _ => kept.entryExpired id e s found h

theorem idleDeadlineEvent {s : State} (h : I s) : I (idleDeadlineEvent s) := by
  unfold Machine.idleDeadlineEvent
  split
  next o sh rev d editing => exact ite_keeps h fun _ => kept.idleEnded o sh rev d s editing h
  · exact h

/-- Every command keeps such a predicate. -/
theorem exec {c : Instr} {s t : State} (taken : exec c s = .next t) (h : I s) : I t := by
  cases c with
  | rstnAsserted => cases taken; exact kept.resetAsserted s h
  | rstnReleased cfgsel adrs holdPin fbkPins => cases taken; exact kept.resetReleased cfgsel adrs holdPin fbkPins s h
  | holdInputChange level => exact kept.holdInputChange taken h
  | holdAsserted =>
    cases taken
    exact whenRunning_keeps h fun running => ite_keeps h fun due => kept.holdAsserted s running due.2 h
  | holdReleased =>
    cases taken
    exact whenRunning_keeps h fun running => ite_keeps h fun due => kept.holdReleased s running due.2 h
  | feedbackInputChange n level => exact kept.feedbackInputChange taken h
  | pulseDeadline n =>
    cases taken
    exact whenRunning_keeps h fun _ => ite_keeps h fun due => kept.pulseEnded n s (State.isSome_of_due due) h
  | leaseDeadline n =>
    cases taken
    exact whenRunning_keeps h fun _ => ite_keeps h fun due => kept.leaseEnded n s (State.isSome_of_due due) h
  | settleDeadline n =>
    cases taken
    exact whenRunning_keeps h fun _ => ite_keeps h fun due => kept.settled n s (State.isSome_of_due due) h
  | presenceDeadline m =>
    cases taken
    exact whenRunning_keeps h fun _ => ite_keeps h fun due => kept.expired m s (State.isSome_of_due due) h
  | entryDeadline id => cases taken; exact whenRunning_keeps h fun _ => kept.entryDeadlineEvent id h
  | idleDeadline => cases taken; exact whenRunning_keeps h fun _ => kept.idleDeadlineEvent h
  | holdoffDeadline p => cases taken; exact whenRunning_keeps h fun _ => kept.holdoffReached p h
  | handshakeTimeout p => cases taken; exact whenRunning_keeps h fun _ => kept.handshakeReached p h
  | disconnectDeadline p => cases taken; exact whenRunning_keeps h fun _ => kept.disconnectReached p h
  | receiveData p b => cases taken; exact whenRunning_keeps h fun _ => kept.receiveChar p _ h
  | receiveEnd p => cases taken; exact whenRunning_keeps h fun _ => kept.receiveChar p _ h
  | receiveFail p => cases taken; exact whenRunning_keeps h fun _ => kept.receiveChar p _ h
  | receiveGrant p => cases taken; exact whenRunning_keeps h fun _ => kept.receiveGrantChar p h
  | receiveIdle p => cases taken; exact whenRunning_keeps h fun _ => kept.receiveIdleChar p h
  | parityError p => cases taken; exact whenRunning_keeps h fun _ => kept.linkError p h
  | transmitCharacter p => exact kept.transmitCharacter taken h
  | packetEndSent p => cases taken; exact whenRunning_keeps h fun _ => kept.endSent p h
  | processWaitingPacket p => cases taken; exact whenRunning_keeps h fun _ => kept.processWaiting p h
  | millisecondCountAdvance => cases taken; exact kept.counted s _ h
  | _ => cases taken; exact kept.requestEvent _ _ _ _ _ h

/-- Every step keeps such a predicate, when it does not read the queue of commands. -/
theorem step (unqueued : ∀ (s : State) (rest : List Instr), I s → I { s with pending := rest }) {s t : State}
    (h : I s) (taken : step s = .next t) : I t := by
  unfold Machine.step at taken
  split at taken
  · cases taken; exact h
  next c rest _ => exact kept.exec taken (unqueued s rest h)

end KeptByEvents

/-! ### Predicates that claims keep -/

/-- A predicate that every claim keeps is kept by every command, when the few events keep it that are no claims. -/
structure KeptByClaims (I : State → Prop) : Prop where
  claimed : ∀ s t : State, Claimed s t → I s → I t
  restarted : ∀ s : State, I s → I (commandedRestart s)
  pins : ∀ (s : State) (c : W32) (h : HoldUnit) (v : Vector Level 16), I s →
    I { s with count := c, hold := h, fbk := v }
  ports : ∀ (s : State) (ps : Vector Port 4), I s → I { s with ports := ps }
  renewed : ∀ (p : PortId) (src : Byte) (s : State), I s → I (renew p src s)
  flagsRead : ∀ (p : MasterId) (s : State), I s → I (s.setStat p { s.stat p with flags := 0#11 })
  subscribed : ∀ (p : MasterId) (mask : ClassSet) (s : State), (s.master p).presence = .present → I s →
    I (s.setStat p { s.stat p with mask := mask })
  resynced : ∀ (p : MasterId) (s : State), I s → I (s.setStat p (s.stat p).onResync)
  began : ∀ (p : PortId) (nt : Notice) (rest : List Notice) (s : State), (s.stat p).queue = nt :: rest → I s →
    I (s.setStat p ((s.stat p).beginNotice rest))
  resetAsserted : ∀ s : State, I s → I (assertReset s)
  resetReleased : ∀ (cfgsel : Level) (adrs : Byte) (holdPin : Level) (fbkPins : W16) (s : State), I s →
    I { State.afterPinReset cfgsel adrs holdPin fbkPins with pending := s.pending }
  expired : ∀ (m : MasterId) (s : State), I s → I (expireMaster m s)

section

variable (s : State)

theorem setFlagAll_claimed (f : Flag) : Claimed s (setFlagAll f s) :=
  .of_told rfl fun m => by rw [setFlagAll_stat]; exact .marked f .same

theorem enterMismatch_claimed (n : LineId) : Claimed s (enterMismatch n s) :=
  ((updLine_claimed s n _).trans (setFlagAll_claimed _ _)).trans (raise_claimed _ _)

theorem settleReached_claimed (n : LineId) : Claimed s (settleReached n s) := by
  unfold settleReached
  split
  · exact updLine_claimed s n _
  · exact enterMismatch_claimed s n

theorem inputChanged_claimed (n : LineId) (level : Level) :
    Claimed (s.setInput n level) (inputChanged n level s) := by
  unfold inputChanged
  dsimp only
  split
  · exact .refl _
  · exact .refl _
  · exact enterMismatch_claimed _ n
  · exact (updLine_claimed _ n _).trans (raise_claimed _ _)

theorem reportChanges_claimed (before : LineId → Level) (cause : Cause) (ns : List LineId) :
    Claimed s (reportChanges before cause ns s) :=
  .foldl (fun s n => reportChange_claimed s n _ _) ns s

theorem holdAssertedEvent_claimed : Claimed (setQualified .asserted s) (holdAssertedEvent s) := by
  rw [holdAssertedEvent_eq]
  have unpulsed : Claimed (setQualified .asserted s) (unpulsedPart s) := .of_told rfl fun _ => .same
  exact ((unpulsed.trans (reportChanges_claimed _ _ _ _)).trans (setFlagAll_claimed _ _)).trans (raise_claimed _ _)

end

namespace KeptByClaims

variable {I : State → Prop} (kept : KeptByClaims I)

include kept

theorem decided {s t : State} (h : Decided s t) (holds : I s) : I t := by
  cases h with
  | claimed h => exact kept.claimed s t h holds
  | restarted h => exact kept.restarted _ (kept.claimed s _ h holds)

theorem carryAllReady {s : State} (holds : I s) : I (carryAllReady s) := by
  unfold Machine.carryAllReady
  generalize s.table.map (fun e => e.id) = ids
  induction ids generalizing s with
  | nil => exact holds
  | cons id ids ih =>
    refine ih ?_
    unfold carryReady
    split
    · exact ite_keeps holds fun _ => kept.decided (carry_decided s _) holds
    · exact holds

theorem hold {s : State} (h : HoldUnit) (holds : I s) : I { s with hold := h } := kept.pins s s.count h s.fbk holds

theorem effect {p : MasterId} {s t : State} (present : (s.master p).presence = .present)
    (effect : RequestEffect p s t) (holds : I s) : I t := by
  cases effect.writes with
  | decided h => exact kept.decided h holds
  | flagsRead => exact kept.flagsRead p s holds
  | subscribed mask => exact kept.subscribed p mask s present holds
  | resynced => exact kept.resynced p _ (kept.ports s _ holds)

theorem byEvents : KeptByEvents I where
  ports := kept.ports
  flag m f s := kept.claimed _ _ (setFlag_claimed s m f)
  renewed := kept.renewed
  effect _ _ _ := kept.effect
  began := kept.began
  resetAsserted := kept.resetAsserted
  resetReleased := kept.resetReleased
  counted s c := kept.pins s c s.hold s.fbk
  holdInput _ _ _ := kept.hold _
  holdAsserted s _ _ holds := kept.claimed _ _ (holdAssertedEvent_claimed s) (kept.hold _ holds)
  holdReleased _ _ _ holds :=
    kept.claimed _ _ (raise_claimed _ _)
      (kept.carryAllReady (kept.claimed _ _ (reportChanges_claimed _ _ _ allLines) (kept.hold _ holds)))
  feedbackPin s v := kept.pins s s.count s.hold v
  feedbackInput n level s holds :=
    kept.claimed _ _ (inputChanged_claimed s n level) (kept.pins s s.count s.hold _ holds)
  pulseEnded n s _ := kept.claimed _ _ (lineClaim_claimed s n _ _)
  leaseEnded n s _ := kept.claimed _ _ (endLease_claimed s n _ _)
  settled n s _ := kept.claimed _ _ (settleReached_claimed s n)
  expired m _ _ := kept.expired m _
  entryExpired _ e s _ := kept.claimed _ _ (endEntry_claimed s e _)
  idleEnded _ _ _ _ s _ := kept.claimed _ _ (setSession_claimed s _)

end KeptByClaims

/-- The events of an absence that are claims, around the marking of the master (R92). -/
theorem expireMaster_claimed (m : MasterId) (s : State) :
    ∃ x, Claimed (s.setMaster m { s.master m with presence := .absent, deadline := none }) x ∧
      Claimed (x.setStat m (x.stat m).onAbsence) (expireMaster m s) :=
  ⟨_, removalFanOut_claimed _ m .absent, raiseMasterChanged_claimed _ m .expired⟩

end Sys2Proof.Machine
end

section
/-! PROOFS. The queue of commands, and where a command can stop; the notification queues and the master records under
every step (R86, R89, R93, R154, R163). -/

namespace Sys2Proof.Machine

open Sys2Proof

/-! ### The queue of commands -/

/-- Settles O1: a step on a queue with a front command is by definition the command on the rest. -/
theorem stepTakesTheFrontCommand : Obligations.StepTakesTheFrontCommand := fun _ _ _ => rfl

theorem expireMaster_pending (m : MasterId) (s : State) : (expireMaster m s).pending = s.pending := by
  obtain ⟨x, removed, raised⟩ := expireMaster_claimed m s
  exact raised.pending.trans removed.pending

/-- The queue of commands is kept by every claim and every other event. -/
theorem pending_keptByClaims (q : List Instr) : KeptByClaims fun s => s.pending = q where
  claimed _ _ claimed := claimed.pending.trans
  restarted s h := by rw [commandedRestart_frame]; exact h
  pins _ _ _ _ h := h
  ports _ _ h := h
  renewed p src s h := by rw [(renew_renewed s p src).frame]; exact h
  flagsRead _ _ h := h
  subscribed _ _ _ _ h := h
  resynced _ _ h := h
  began _ _ _ _ _ h := h
  resetAsserted _ h := h
  resetReleased _ _ _ _ _ h := h
  expired m s h := (expireMaster_pending m s).trans h

/-- Settles O2: no event writes the queue. -/
theorem execKeepsTheQueue : Obligations.ExecKeepsTheQueue := fun _ s _ taken =>
  (pending_keptByClaims s.pending).byEvents.exec taken rfl

/-! ### Where a command can stop -/

/-- A packet begins, or the front notice has no address to go to (R89, R164). -/
theorem beginPacket_stops (p : PortId) (s : State) : (∃ t, beginPacket p s = .next t) ∨
    (beginPacket p s = .fault .noticeWithoutAddress ∧ (s.port p).responses = [] ∧ (s.stat p).queue ≠ [] ∧
      (s.master p).lastSource = none) := by
  unfold beginPacket
  split
  · exact .inl ⟨_, rfl⟩
  next responses =>
    split
    · exact .inl ⟨_, rfl⟩
    next queue =>
      split
      next address => exact .inr ⟨rfl, responses, by rw [queue]; nofun, address⟩
      · exact .inl ⟨_, rfl⟩

theorem transmit_stops (p : PortId) (s : State) : (∃ t, transmit p s = .next t) ∨
    (transmit p s = .fault .noticeWithoutAddress ∧ (s.port p).link = .up ∧ (s.port p).responses = [] ∧
      (s.stat p).queue ≠ [] ∧ (s.master p).lastSource = none) := by
  unfold transmit
  dsimp only
  split
  · exact .inl ⟨_, rfl⟩
  · exact .inl ⟨_, rfl⟩
  · exact .inl ⟨_, rfl⟩
  · split <;> exact .inl ⟨_, rfl⟩
  next up =>
    split
    · exact .inl ⟨_, rfl⟩
    · split
      · exact .inl ⟨_, rfl⟩
      · split
        · exact .inl ⟨_, rfl⟩
        · exact (beginPacket_stops p s).imp_right fun ⟨fault, rest⟩ => ⟨fault, up, rest⟩

theorem execHoldInputChange_next (level : Level) (s : State) : ∃ t, execHoldInputChange level s = .next t := by
  unfold execHoldInputChange
  split
  · exact ⟨_, rfl⟩
  · split <;> exact ⟨_, rfl⟩

theorem execFeedbackInputChange_next (n : LineId) (level : Level) (s : State) :
    ∃ t, execFeedbackInputChange n level s = .next t := by
  unfold execFeedbackInputChange
  split
  · exact ⟨_, rfl⟩
  · split <;> exact ⟨_, rfl⟩

/-- Settles O3: of all commands the transmitter alone has a branch that stops. -/
theorem execStopsOnlyWithoutAnAddress : Obligations.ExecStopsOnlyWithoutAnAddress := by
  intro c s
  cases c with
  | holdInputChange level => exact .inl (execHoldInputChange_next level s)
  | feedbackInputChange n level => exact .inl (execFeedbackInputChange_next n level s)
  | transmitCharacter p =>
    show (∃ t, execTransmitCharacter p s = .next t) ∨ _
    cases running : s.rstn with
    | low => exact .inl ⟨s, by rw [execTransmitCharacter, running]⟩
    | high =>
      have sends : execTransmitCharacter p s = transmit p s := by rw [execTransmitCharacter, running]
      rw [sends]
      exact (transmit_stops p s).imp_right fun stopped => ⟨p, rfl, sends.trans stopped.1, stopped.2⟩
  | _ => exact .inl ⟨_, rfl⟩

/-! ### The notification queues (R163) -/

/-- A status record's queue keeps the bounds of R163. -/
theorem noticed_keeps_queue {r : StatusRecord} (s : State) (m : MasterId) (nt : Notice)
    (within : r.queue.length ≤ 8 ∧ distinctKeys r.queue) :
    (noticed s m nt r).queue.length ≤ 8 ∧ distinctKeys (noticed s m nt r).queue := by
  unfold noticed
  split
  · exact StatusRecord.enqueue_keeps_queue nt within.1 within.2
  · exact within

theorem QueueInv.empty {s : State} (h : ∀ m, (s.stat m).queue = []) : QueueInv s := fun m => by
  rw [h m]; exact ⟨Nat.zero_le 8, .nil⟩

/-- A status record that takes the place of another keeps the bounds when its queue does. -/
theorem QueueInv.setStat {s : State} (h : QueueInv s) (m : MasterId) {r : StatusRecord}
    (within : r.queue.length ≤ 8 ∧ distinctKeys r.queue) : QueueInv (s.setStat m r) := fun k => by
  rw [State.setStat_stat]
  split
  · exact within
  · exact h k

theorem QueueInv.claimed {s t : State} (claimed : Claimed s t) (h : QueueInv s) : QueueInv t := fun m =>
  (claimed.told m).keeps_queue (h m)

theorem queueInv_keptByClaims : KeptByClaims QueueInv where
  claimed _ _ := QueueInv.claimed
  restarted s _ := .empty fun m => by rw [commandedRestart_stat]
  pins _ _ _ _ h := h
  ports _ _ h := h
  renewed p src s h m := by
    rw [(renew_renewed s p src).status]
    split
    · exact noticed_keeps_queue _ _ _ (h m)
    · exact h m
  flagsRead p s h := h.setStat p (h p)
  subscribed p _ s _ h := h.setStat p (h p)
  resynced p _ h := h.setStat p ⟨Nat.zero_le 8, .nil⟩
  began p nt rest s queue h := by
    have within := h p
    rw [queue] at within
    exact h.setStat p ⟨(Nat.le_succ _).trans within.1, within.2.of_cons⟩
  resetAsserted s _ := .empty fun m => congrArg StatusRecord.queue (get_replicate resetStatus m)
  resetReleased _ _ _ _ s _ := .empty fun m => congrArg StatusRecord.queue (get_replicate resetStatus m)
  expired m s h := by
    obtain ⟨x, removed, raised⟩ := expireMaster_claimed m s
    have fanned : QueueInv x := .claimed removed h
    exact .claimed raised (fanned.setStat m ⟨Nat.zero_le 8, .nil⟩)

/-! ### The master records (R86, R89, R93) -/

/-- An ABSENT master's record after the absence of another, a restart or a reset (R92, R104, R105). -/
theorem MasterLaw.of_absent {s : State} {m : MasterId} (absent : (s.master m).presence = .absent)
    (deadline : (s.master m).deadline = none) (mask : (s.stat m).mask = 0#6) (queue : (s.stat m).queue = []) :
    MasterLaw s m where
  deadline := by simp [absent, deadline]
  address := by simp [absent]
  silent _ := ⟨mask, queue⟩

theorem MasterLaw.of_present {s : State} {m : MasterId} (present : (s.master m).presence = .present)
    (deadline : (s.master m).deadline.isSome = true) (address : (s.master m).lastSource.isSome = true) :
    MasterLaw s m where
  deadline := by simp [present, deadline]
  address _ := address
  silent absent := nomatch absent.symm.trans present

/-- A law reads the presence, the deadline and the address of a master, and what an ABSENT one is told. -/
theorem MasterLaw.congr {s t : State} {m : MasterId} (h : MasterLaw s m)
    (presence : (t.master m).presence = (s.master m).presence)
    (deadline : (t.master m).deadline = (s.master m).deadline)
    (address : (t.master m).lastSource = (s.master m).lastSource)
    (silent : (s.master m).presence = .absent →
      (t.stat m).mask = (s.stat m).mask ∧ (t.stat m).queue = (s.stat m).queue) : MasterLaw t m where
  deadline := by rw [presence, deadline]; exact h.deadline
  address := by rw [presence, address]; exact h.address
  silent := by
    rw [presence]
    intro absent
    rw [(silent absent).1, (silent absent).2]
    exact h.silent absent

theorem absent_iff_not_present (p : Presence) : p = .absent ↔ ¬p = .present := by
  cases p <;> simp

theorem MasterLaw.claimed {s t : State} {m : MasterId} (claimed : Claimed s t) (h : MasterLaw s m) :
    MasterLaw t m :=
  h.congr (claimed.presence m) (by rw [claimed.master]) (by rw [claimed.master]) fun absent =>
    ⟨(claimed.told m).mask, (claimed.told m).queue_of_absent ((absent_iff_not_present _).mp absent)⟩

/-- A status record that takes the place of another keeps the laws, when it is silent for an ABSENT master. -/
theorem MasterInv.setStat {s : State} (h : MasterInv s) (m : MasterId) {r : StatusRecord}
    (silent : (s.master m).presence = .absent → r.mask = (s.stat m).mask ∧ r.queue = (s.stat m).queue) :
    MasterInv (s.setStat m r) := fun k => by
  refine (h k).congr rfl rfl rfl fun absent => ?_
  rw [State.setStat_stat]
  split
  next same => subst same; exact silent absent
  · exact ⟨rfl, rfl⟩

/-- An ABSENT master has no notice, so none can begin (R89, R93). -/
theorem MasterInv.present_of_queue {s : State} (h : MasterInv s) {m : MasterId} (waiting : (s.stat m).queue ≠ []) :
    (s.master m).presence = .present := by
  by_contra absent
  exact waiting ((h m).silent ((absent_iff_not_present _).mpr absent)).2

theorem masterInv_renew (p : PortId) (src : Byte) {s : State} (h : MasterInv s) : MasterInv (renew p src s) := by
  have renewed := renew_renewed s p src
  intro m
  by_cases same : m = p
  · subst same
    exact .of_present (renew_present m src s) (by rw [renewed.requester]; rfl) (by rw [renewed.requester]; rfl)
  · have kept := renewed.others m same
    refine (h m).congr (by rw [kept]) (by rw [kept]) (by rw [kept]) fun absent => ?_
    have unrouted : ∀ nt, noticed (renew p src s) m nt (s.stat m) = s.stat m := fun nt => by
      rw [noticed, if_neg]
      rw [kept, absent]
      nofun
    rw [renewed.status, unrouted, ite_self]
    exact ⟨rfl, rfl⟩

theorem masterInv_expire (m : MasterId) {s : State} (h : MasterInv s) : MasterInv (expireMaster m s) := by
  obtain ⟨x, removed, raised⟩ := expireMaster_claimed m s
  intro k
  refine MasterLaw.claimed raised ?_
  by_cases same : k = m
  · subst same
    have record := removed.master k
    rw [State.setMaster_master_same] at record
    refine .of_absent ?_ ?_ ?_ ?_
    · rw [State.setStat_master, record]
    · rw [State.setStat_master, record]
    · rw [State.setStat_stat_same]; rfl
    · rw [State.setStat_stat_same]; rfl
  · have marked : MasterLaw (s.setMaster m { s.master m with presence := .absent, deadline := none }) k := by
      refine (h k).congr ?_ ?_ ?_ fun _ => ⟨rfl, rfl⟩ <;> rw [State.setMaster_master_other _ _ _ _ same]
    refine (marked.claimed removed).congr rfl rfl rfl fun _ => ?_
    rw [State.setStat_stat_other _ _ _ _ same]
    exact ⟨rfl, rfl⟩

theorem masterInv_keptByClaims : KeptByClaims MasterInv where
  claimed _ _ claimed h m := (h m).claimed claimed
  restarted s _ m := .of_absent (by rw [commandedRestart_master]; rfl) (by rw [commandedRestart_master]; rfl)
    (by rw [commandedRestart_stat]) (by rw [commandedRestart_stat])
  pins _ _ _ _ h := fun m => (h m).congr rfl rfl rfl fun _ => ⟨rfl, rfl⟩
  ports _ _ h := fun m => (h m).congr rfl rfl rfl fun _ => ⟨rfl, rfl⟩
  renewed p src _ := masterInv_renew p src
  flagsRead p _ h := h.setStat p fun _ => ⟨rfl, rfl⟩
  subscribed p _ _ present h := h.setStat p fun absent => nomatch absent.symm.trans present
  resynced p _ h := h.setStat p fun absent => ⟨rfl, ((h p).silent absent).2.symm⟩
  began p _ _ _ queue h := h.setStat p fun absent =>
    nomatch absent.symm.trans (h.present_of_queue (by rw [queue]; nofun))
  resetAsserted s _ m :=
    have master := get_replicate (n := 4) resetMaster m
    have stat := get_replicate (n := 4) resetStatus m
    .of_absent (congrArg Master.presence master) (congrArg Master.deadline master)
      (congrArg StatusRecord.mask stat) (congrArg StatusRecord.queue stat)
  resetReleased _ _ _ _ s _ m :=
    have master := get_replicate (n := 4) resetMaster m
    have stat := get_replicate (n := 4) resetStatus m
    .of_absent (congrArg Master.presence master) (congrArg Master.deadline master)
      (congrArg StatusRecord.mask stat) (congrArg StatusRecord.queue stat)
  expired m _ := masterInv_expire m

/-- Settles O57: claims tell masters by notices and flags alone, and the other events say what they leave. -/
theorem stepKeepsTheQueuesAndTheMasterRecords : Obligations.StepKeepsTheQueuesAndTheMasterRecords :=
  ⟨fun _ _ => queueInv_keptByClaims.byEvents.step fun _ _ h => h,
    fun _ _ => masterInv_keptByClaims.byEvents.step fun _ _ h m => (h m).congr rfl rfl rfl fun _ => ⟨rfl, rfl⟩⟩

end Sys2Proof.Machine
end

section
/-! PROOFS. The port records under every step: flow control (R130, R146, R171, R183, R184), and the deadlines and the
transmission of each link state (R171). What packets and links do to a port's record is said once, for any predicate
of port records. -/

namespace Sys2Proof.Machine

open Sys2Proof

/-! ### Port records under packets -/

/-- A predicate of port records that packets keep: switching, the stored-response record, a response for a free slot,
the assembly record within 24 bytes, and characters leaving the buffer. -/
structure PacketLaw (P : Port → Prop) : Prop where
  off : ∀ x, P x → P x.goOff
  started : ∀ x, P x → P x.startLink
  stored : ∀ x (r : StoredResponse), P x → P { x with stored := r }
  responded : ∀ (x : Port) (b : List Byte), x.responses.length < 2 → P x → P (x.queueResponse b)
  assembled : ∀ (x : Port) (a : Assembly), a.bytes.length ≤ 24 ∨ a.bytes = x.assembly.bytes → P x →
    P { x with assembly := a }
  taken : ∀ (x : Port) (c : RxChar) (rest : List RxChar), x.rx = c :: rest → P x → P { x with rx := rest }

/-- What a request's effect does to a port: switching, and for RESYNC the stored-response record. -/
theorem RequestEffect.keeps_port {P : Port → Prop} {p : MasterId} {s t : State} (effect : RequestEffect p s t)
    (off : ∀ x, P x → P x.goOff) (started : ∀ x, P x → P x.startLink)
    (stored : ∀ x (r : StoredResponse), P x → P { x with stored := r }) {k : PortId} (h : P (s.port k)) :
    P (t.port k) := by
  cases effect.writes with
  | decided decided =>
    cases decided with
    | claimed claimed => exact (claimed.port k).keeps off started h
    | restarted claimed =>
      rw [commandedRestart_port]
      exact (claimed.port k).keeps off started h
  | flagsRead => exact h
  | subscribed mask => exact h
  | resynced =>
    rw [State.setStat_port, State.updPort_port]
    split
    next same => subst same; exact stored _ _ h
    · exact h

/-- A predicate of each port holds of every port's record. -/
abbrev OnPorts (P : PortId → Port → Prop) (s : State) : Prop := ∀ k, P k (s.port k)

theorem OnPorts.updPort {P : PortId → Port → Prop} {s : State} {p : PortId} {f : Port → Port} (h : OnPorts P s)
    (changed : P p (f (s.port p))) : OnPorts P (s.updPort p f) := fun k => by
  rw [State.updPort_port]
  split
  next same => subst same; exact changed
  · exact h k

theorem OnPorts.claimed {P : PortId → Port → Prop} {s t : State} (h : OnPorts P s)
    (off : ∀ k x, P k x → P k x.goOff) (started : ∀ k x, P k x → P k x.startLink) (claimed : Claimed s t) :
    OnPorts P t := fun k => (claimed.port k).keeps (off k) (started k) (h k)

section

variable {P : PortId → Port → Prop} (law : ∀ k, PacketLaw (P k)) {s : State} (p : PortId)

include law

/-- The effect of a request keeps, with the law, the free slot that was found for its response. -/
theorem execute_onPorts (admitted : Bool) (q : RawRequest) (h : OnPorts P s)
    (slot : (s.port p).responses.length < 2) :
    OnPorts P (execute p admitted q s).1 ∧ ((execute p admitted q s).1.port p).responses.length < 2 := by
  have effect := execute_effect p admitted q s
  refine ⟨fun k => effect.keeps_port (law k).off (law k).started (law k).stored (h k), ?_⟩
  exact effect.keeps_port (P := fun x => x.responses.length < 2) (fun _ _ => Nat.zero_lt_two) (fun _ h => h)
    (fun _ _ h => h) slot

theorem takeResponse_keeps {k : PortId} {x : Port} (q : RawRequest) (b : List Byte)
    (slot : x.responses.length < 2) (h : P k x) : P k (x.takeResponse q b) := by
  have stored := (law k).stored x ⟨true, q.tag, q.check, b⟩ h
  unfold Port.takeResponse
  dsimp only
  split
  · exact stored
  · exact (law k).responded { x with stored := ⟨true, q.tag, q.check, b⟩ } b slot stored

theorem acceptRequest_onPorts (q : RawRequest) (h : OnPorts P s) (slot : (s.port p).responses.length < 2) :
    OnPorts P (acceptRequest p q s) := by
  have renewed : OnPorts P (renew p q.source s) := fun k => by rw [renew_port]; exact h k
  have slot_renewed : ((renew p q.source s).port p).responses.length < 2 := by rw [renew_port]; exact slot
  unfold acceptRequest
  dsimp only
  split
  · exact renewed.updPort ((law p).responded _ _ slot_renewed (renewed p))
  · obtain ⟨executed, slot_executed⟩ := execute_onPorts law p ((s.master p).presence = .absent) q renewed slot_renewed
    exact executed.updPort (takeResponse_keeps law _ _ slot_executed (executed p))

theorem processPacket_onPorts (bytes : List Byte) (h : OnPorts P s) (slot : (s.port p).responses.length < 2) :
    OnPorts P (processPacket p bytes s) := by
  unfold processPacket
  split
  · exact h
  · split
    · exact h
    · split
      · exact h
      · exact acceptRequest_onPorts law p _ h slot

theorem setAssembly_onPorts (a : Assembly) (h : OnPorts P s)
    (within : a.bytes.length ≤ 24 ∨ a.bytes = (s.port p).assembly.bytes) : OnPorts P (s.setAssembly p a) :=
  h.updPort ((law p).assembled _ a within (h p))

theorem completePacket_onPorts (bytes : List Byte) (h : OnPorts P s)
    (within : bytes.length ≤ 24 ∨ bytes = (s.port p).assembly.bytes) : OnPorts P (completePacket p bytes s) := by
  unfold completePacket
  split
  next slot =>
    have processed := processPacket_onPorts law p bytes h (of_decide_eq_true slot)
    exact setAssembly_onPorts law p _ processed (.inl (Nat.zero_le _))
  · exact setAssembly_onPorts law p _ h within

theorem takeChar_onPorts (c : RxChar) (waiting : (s.port p).assembly.state ≠ .waiting) (h : OnPorts P s) :
    OnPorts P (takeChar p c s) := by
  have assembled (a : Assembly) (within : a.bytes.length ≤ 24 ∨ a.bytes = (s.port p).assembly.bytes) :
      OnPorts P (assembling s p a) := setAssembly_onPorts law p a h within
  have taken := takeChar_taken s p c waiting
  generalize takeChar p c s = t at taken ⊢
  cases taken with
  | first b _ => exact assembled _ (.inl (by simp))
  | next b _ room => exact assembled _ (.inl (by simpa using room))
  | tooMany b _ _ | waits _ _ _ => exact assembled _ (.inr rfl)
  | dropped b _ | empty _ => exact h
  | short _ _ | long _ | failed _ => exact assembled ⟨.idle, []⟩ (.inl (Nat.zero_le _))
  | processed _ _ slot =>
    exact setAssembly_onPorts law p _ (processPacket_onPorts law p _ h slot) (.inl (Nat.zero_le _))

theorem drain_onPorts (k : Nat) (h : OnPorts P s) : OnPorts P (drain p k s) := by
  induction k generalizing s with
  | zero => exact h
  | succ k ih =>
    unfold drain
    split
    · exact h
    next waiting =>
      split
      · exact h
      next c rest buffer =>
        refine ih (takeChar_onPorts law p c ?_ (h.updPort ((law p).taken _ c rest buffer (h p))))
        rwa [State.updPort_port_same]

theorem processWaiting_onPorts (h : OnPorts P s) : OnPorts P (processWaiting p s) := by
  unfold processWaiting
  split
  · exact drain_onPorts law p _ (completePacket_onPorts law p _ h (.inr rfl))
  · exact h

theorem requestEvent_onPorts (src tag : Byte) (code : RequestCode) (params : List Byte)
    (length : params.length = code.paramLength) (h : OnPorts P s) :
    OnPorts P (requestEvent p src tag code params s) := by
  unfold requestEvent
  split
  · refine completePacket_onPorts law p _ h (.inl ?_)
    have short : code.paramLength ≤ 11 := by cases code <;> decide
    simp only [requestPacket, List.length_append, List.length_cons, List.length_nil, length]
    omega
  · exact h

end

/-! ### Port records under links -/

/-- A predicate of port records that packets and links keep: one field for each change that chapter 9 makes. -/
structure LinkLaw (P : Port → Prop) : Prop extends PacketLaw P where
  silent : P silentPort
  holdingOff : P { silentPort with link := .quiet, holdoff := some Config.holdoffNs }
  backToQuiet : ∀ x : Port, x.link = .listen → P x → P x.backToQuiet
  toQuiet : ∀ x : Port, x.link = .handshake ∨ x.link = .up ∧ x.tx = none → P x → P x.toQuiet
  lost : ∀ x : Port, P x → P { x with tx := none, responses := [] }
  received : ∀ (x : Port) (c : RxChar), x.link = .up → x.outstanding ≠ 0 → P x →
    P { x.heard with rx := x.rx ++ [c], outstanding := x.outstanding - 1 }
  linked : ∀ x : Port, x.link = .handshake → P x →
    P { x.heard with link := .up, credit := Config.grantSize, handshake := none }
  credited : ∀ x : Port, x.link = .up → x.credit + Config.grantSize ≤ Config.creditLimit → P x →
    P { x.heard with credit := x.credit + Config.grantSize }
  answered : ∀ x : Port, x.link = .listen → P x →
    P { x.heard with link := .handshake, handshake := some Config.handshakeNs }
  heard : ∀ x : Port, x.link = .handshake ∨ x.link = .up → P x → P x.heard
  listening : ∀ x : Port, x.link = .quiet → P x → P { x with link := .listen, holdoff := none, idleSent := false }
  idleSent : ∀ x : Port, P x → P x.sendIdle
  grantSent : ∀ x : Port, x.grantOwed = true → P x → P x.sendGrant
  dataSent : ∀ (x : Port) (b : Byte) (t : Transmission), x.link = .up → P x → P (x.sendData b t)
  endSent : ∀ (x : Port) (t : Transmission), x.link = .up → P x → P (x.sendEnd t)

/-- Packets put nothing into transmission. -/
theorem PacketLaw.and_unsent {P : Port → Prop} (law : PacketLaw P) : PacketLaw fun x => P x ∧ x.tx = none where
  off x h := ⟨law.off x h.1, rfl⟩
  started x h := ⟨law.started x h.1, rfl⟩
  stored x r h := ⟨law.stored x r h.1, h.2⟩
  responded x b slot h := ⟨law.responded x b slot h.1, h.2⟩
  assembled x a within h := ⟨law.assembled x a within h.1, h.2⟩
  taken x c rest buffer h := ⟨law.taken x c rest buffer h.1, h.2⟩

namespace LinkLaw

variable {P : Port → Prop} (law : LinkLaw P) {s : State} (p : PortId)

include law

theorem claimed {t : State} (claimed : Claimed s t) (h : OnPorts (fun _ => P) s) : OnPorts (fun _ => P) t :=
  h.claimed (fun _ => law.off) (fun _ => law.started) claimed

theorem decided {t : State} (decided : Decided s t) (h : OnPorts (fun _ => P) s) : OnPorts (fun _ => P) t := by
  cases decided with
  | claimed claimed => exact law.claimed claimed h
  | restarted claimed =>
    intro k
    rw [commandedRestart_port]
    exact law.claimed claimed h k

theorem enterQuiet (due : (s.port p).link = .handshake ∨ (s.port p).link = .up ∧ (s.port p).tx = none)
    (h : OnPorts (fun _ => P) s) : OnPorts (fun _ => P) (enterQuiet p s) := by
  have quiet : OnPorts (fun _ => P) (s.updPort p Port.toQuiet) := h.updPort (law.toQuiet _ due (h p))
  unfold Machine.enterQuiet
  have trimmed := ite_keeps (c := (trimBuffer (s.port p).rx).length < (s.port p).rx.length) quiet
    fun _ => law.claimed (setFlag_claimed _ p .truncated) quiet
  exact ite_keeps trimmed fun _ => law.claimed (setFlag_claimed _ p _)
    (setAssembly_onPorts (fun _ => law.toPacketLaw) p _ trimmed (.inl (Nat.zero_le _)))

/-- After the losses nothing is in transmission at the port, and the waiting packet puts nothing there (R181). -/
theorem processLosses (h : OnPorts (fun _ => P) s) :
    OnPorts (fun k x => P x ∧ (k = p → x.tx = none))
      (processWaiting p (loseTransmission p (setFlag p .linkError s))) := by
  have flagged := law.claimed (setFlag_claimed s p .linkError) h
  have noticed := law.claimed (noticeLostInTransmission_claimed _ p) flagged
  refine processWaiting_onPorts (fun k => ?_) p fun k => ?_
  · by_cases same : k = p
    · simpa [same] using law.toPacketLaw.and_unsent
    · simpa [same] using law.toPacketLaw
  · refine ⟨noticed.updPort (law.lost _ (noticed p)) k, fun same => ?_⟩
    subst same
    rw [loseTransmission, State.updPort_port_same]

theorem linkError (h : OnPorts (fun _ => P) s) : OnPorts (fun _ => P) (linkError p s) := by
  unfold Machine.linkError
  split
  · exact h
  · exact h
  next listen => exact h.updPort (law.backToQuiet _ listen (h p))
  next handshake => exact law.enterQuiet p (.inl handshake) h
  · have lost := law.processLosses p h
    unfold quietFromUp
    split
    next up => exact law.enterQuiet p (.inr ⟨up, (lost p).2 rfl⟩) fun k => (lost k).1
    · exact fun k => (lost k).1

theorem receiveChar (c : RxChar) (h : OnPorts (fun _ => P) s) : OnPorts (fun _ => P) (receiveChar p c s) := by
  unfold Machine.receiveChar
  split
  · exact h
  · exact h
  · exact h
  · exact law.linkError p h
  next up =>
    split
    · exact law.linkError p h
    next granted =>
      exact drain_onPorts (fun _ => law.toPacketLaw) p _ (h.updPort (law.received _ c up granted (h p)))

theorem receiveGrantChar (h : OnPorts (fun _ => P) s) : OnPorts (fun _ => P) (receiveGrantChar p s) := by
  unfold Machine.receiveGrantChar
  split
  · exact h
  · exact h
  · exact h
  next handshake => exact h.updPort (law.linked _ handshake (h p))
  next up =>
    split
    next room => exact h.updPort (law.credited _ up room (h p))
    · exact law.linkError p h

theorem receiveIdleChar (h : OnPorts (fun _ => P) s) : OnPorts (fun _ => P) (receiveIdleChar p s) := by
  unfold Machine.receiveIdleChar
  split
  · exact h
  · exact h
  next listen => exact h.updPort (law.answered _ listen (h p))
  next handshake => exact h.updPort (law.heard _ (.inl handshake) (h p))
  next up => exact h.updPort (law.heard _ (.inr up) (h p))

theorem holdoffReached (h : OnPorts (fun _ => P) s) : OnPorts (fun _ => P) (holdoffReached p s) := by
  unfold Machine.holdoffReached
  split
  next quiet => exact h.updPort (law.listening _ quiet (h p))
  · exact h

theorem handshakeReached (h : OnPorts (fun _ => P) s) : OnPorts (fun _ => P) (handshakeReached p s) := by
  unfold Machine.handshakeReached
  split
  · exact law.linkError p h
  · exact h

theorem disconnectReached (h : OnPorts (fun _ => P) s) : OnPorts (fun _ => P) (disconnectReached p s) := by
  unfold Machine.disconnectReached
  split
  · exact law.linkError p h
  · exact law.linkError p h
  · exact h

theorem sendNext {x : Port} (t : Transmission) (up : x.link = .up) (h : P x) : P (x.sendNext t) := by
  unfold Port.sendNext
  split
  · exact law.dataSent x _ t up h
  · exact law.endSent x t up h

theorem beginPacket (up : (s.port p).link = .up) {t : State} (sent : beginPacket p s = .next t)
    (h : OnPorts (fun _ => P) s) : OnPorts (fun _ => P) t := by
  unfold Machine.beginPacket at sent
  split at sent
  · cases sent; exact h.updPort (law.sendNext _ up (h p))
  · split at sent
    · cases sent; exact h.updPort (law.idleSent _ (h p))
    next nt rest _ =>
      split at sent
      · nomatch sent
      · cases sent
        have begun : OnPorts (fun _ => P) (s.setStat p ((s.stat p).beginNotice rest)) := h
        exact begun.updPort (law.sendNext _ up (h p))

theorem transmit {t : State} (sent : transmit p s = .next t) (h : OnPorts (fun _ => P) s) :
    OnPorts (fun _ => P) t := by
  unfold Machine.transmit at sent
  dsimp only at sent
  split at sent
  · cases sent; exact h
  · cases sent; exact h
  · cases sent; exact h.updPort (law.idleSent _ (h p))
  · split at sent
    next owed =>
      rw [Bool.and_eq_true] at owed
      cases sent; exact h.updPort (law.grantSent _ owed.1 (h p))
    · cases sent; exact h.updPort (law.idleSent _ (h p))
  next up =>
    split at sent
    next owed => cases sent; exact h.updPort (law.grantSent _ owed (h p))
    · split at sent
      · cases sent; exact h.updPort (law.idleSent _ (h p))
      · split at sent
        · cases sent; exact h.updPort (law.sendNext _ up (h p))
        · exact law.beginPacket p up sent h

theorem packetEndSent (h : OnPorts (fun _ => P) s) : OnPorts (fun _ => P) (Machine.endSent p s) := by
  unfold Machine.endSent
  split
  next t due =>
    refine h.updPort (law.endSent _ t ?_ (h p))
    unfold Port.endDue at due
    split at due
    next sending => simp only [Bool.and_eq_true, decide_eq_true_eq] at sending; exact sending.1.1
    · nomatch due
  · exact h

theorem resetPort (adrs : Byte) : P (resetPort adrs) := by
  unfold Machine.resetPort
  split
  · exact law.holdingOff
  · exact law.silent

theorem holdReleasedEvent (h : OnPorts (fun _ => P) s) : OnPorts (fun _ => P) (holdReleasedEvent s) := by
  refine law.claimed (raise_claimed _ _) ?_
  have reported := law.claimed (reportChanges_claimed (setQualified .released s) s.driven .hold allLines) h
  unfold carryAllReady
  generalize (recomputeDriven s.driven (setQualified .released s)).table.map (fun e => e.id) = ids
  rw [recomputeDriven_eq]
  generalize reportChanges s.driven .hold allLines (setQualified .released s) = x at reported ⊢
  induction ids generalizing x with
  | nil => exact reported
  | cons id ids ih =>
    refine ih _ ?_
    unfold carryReady
    split
    next e _ =>
      exact ite_keeps reported fun _ => law.decided (carry_decided x e) reported
    · exact reported

/-- Every command keeps such a predicate of every port's record. -/
theorem exec {c : Instr} {t : State} (taken : exec c s = .next t) (h : OnPorts (fun _ => P) s) :
    OnPorts (fun _ => P) t := by
  cases c with
  | rstnAsserted =>
    cases taken
    intro k
    show P ((Vector.replicate 4 silentPort).get k)
    rw [get_replicate]
    exact law.silent
  | rstnReleased cfgsel adrs holdPin fbkPins =>
    cases taken
    intro k
    show P ((Vector.replicate 4 (Machine.resetPort adrs)).get k)
    rw [get_replicate]
    exact law.resetPort adrs
  | holdInputChange level =>
    unfold Machine.exec execHoldInputChange at taken
    dsimp only at taken
    split at taken
    · cases taken; exact h
    · split at taken <;> cases taken <;> exact h
  | holdAsserted =>
    cases taken
    exact whenRunning_keeps h fun _ => ite_keeps h fun _ => law.claimed (holdAssertedEvent_claimed s) h
  | holdReleased => cases taken; exact whenRunning_keeps h fun _ => ite_keeps h fun _ => law.holdReleasedEvent h
  | feedbackInputChange n level =>
    unfold Machine.exec execFeedbackInputChange at taken
    dsimp only at taken
    split at taken
    · cases taken; exact h
    · split at taken <;> cases taken
      · exact h
      · exact law.claimed (inputChanged_claimed s n level) h
  | pulseDeadline n =>
    cases taken
    exact whenRunning_keeps h fun _ => ite_keeps h fun _ => law.claimed (lineClaim_claimed s n _ _) h
  | leaseDeadline n =>
    cases taken
    exact whenRunning_keeps h fun _ => ite_keeps h fun _ => law.claimed (endLease_claimed s n _ _) h
  | settleDeadline n =>
    cases taken
    exact whenRunning_keeps h fun _ => ite_keeps h fun _ => law.claimed (settleReached_claimed s n) h
  | presenceDeadline m =>
    cases taken
    obtain ⟨x, removed, raised⟩ := expireMaster_claimed m s
    have fanned : OnPorts (fun _ => P) x := law.claimed removed h
    exact whenRunning_keeps h fun _ => ite_keeps h fun _ => law.claimed raised fanned
  | entryDeadline id =>
    cases taken
    refine whenRunning_keeps h fun _ => ?_
    unfold entryDeadlineEvent
    split
    · exact h
    · exact ite_keeps h fun _ => law.claimed (endEntry_claimed s _ _) h
  | idleDeadline =>
    cases taken
    refine whenRunning_keeps h fun _ => ?_
    unfold idleDeadlineEvent
    split
    · exact ite_keeps h fun _ => h
    · exact h
  | holdoffDeadline p => cases taken; exact whenRunning_keeps h fun _ => law.holdoffReached p h
  | handshakeTimeout p => cases taken; exact whenRunning_keeps h fun _ => law.handshakeReached p h
  | disconnectDeadline p => cases taken; exact whenRunning_keeps h fun _ => law.disconnectReached p h
  | receiveData p b => cases taken; exact whenRunning_keeps h fun _ => law.receiveChar p _ h
  | receiveEnd p => cases taken; exact whenRunning_keeps h fun _ => law.receiveChar p _ h
  | receiveFail p => cases taken; exact whenRunning_keeps h fun _ => law.receiveChar p _ h
  | receiveGrant p => cases taken; exact whenRunning_keeps h fun _ => law.receiveGrantChar p h
  | receiveIdle p => cases taken; exact whenRunning_keeps h fun _ => law.receiveIdleChar p h
  | parityError p => cases taken; exact whenRunning_keeps h fun _ => law.linkError p h
  | transmitCharacter p =>
    unfold Machine.exec execTransmitCharacter at taken
    dsimp only at taken
    split at taken
    · cases taken; exact h
    · exact law.transmit p taken h
  | packetEndSent p => cases taken; exact whenRunning_keeps h fun _ => law.packetEndSent p h
  | processWaitingPacket p =>
    cases taken
    exact whenRunning_keeps h fun _ => processWaiting_onPorts (fun _ => law.toPacketLaw) p h
  | millisecondCountAdvance => cases taken; exact h
  | _ => cases taken; exact requestEvent_onPorts (fun _ => law.toPacketLaw) _ _ _ _ _ rfl h

theorem step {t : State} (h : OnPorts (fun _ => P) s) (taken : step s = .next t) : OnPorts (fun _ => P) t := by
  unfold Machine.step at taken
  split at taken
  · cases taken; exact h
  next rest _ => exact law.exec (s := { s with pending := rest }) taken h

end LinkLaw

/-! ### The two laws of a port -/

/-- The flow-control laws under each change of chapters 7 and 9. -/
theorem portFlow_linkLaw : LinkLaw PortFlow where
  off x _ := ⟨by simp [Port.goOff], by simp [Port.goOff], by simp [Port.goOff], by simp [Port.goOff],
    by simp [Port.goOff]⟩
  started x h := ⟨by simp [Port.startLink], by simp [Port.startLink], h.slots, h.gathered,
    by simp [Port.startLink]⟩
  stored x r h := ⟨h.places, h.credit, h.slots, h.gathered, h.withdrawn⟩
  responded x b slot h := ⟨h.places, h.credit, by simpa [Port.queueResponse] using slot, h.gathered, h.withdrawn⟩
  assembled x a within h := ⟨h.places, h.credit, h.slots,
    within.elim id fun same => same ▸ h.gathered, h.withdrawn⟩
  taken x c rest buffer h := ⟨by have := h.places; rw [buffer] at this; simp at this ⊢; omega,
    h.credit, h.slots, h.gathered, h.withdrawn⟩
  silent := ⟨by decide, by decide, by decide, by decide, fun _ => ⟨rfl, rfl⟩⟩
  holdingOff := ⟨by decide, by decide, by decide, by decide, fun _ => ⟨rfl, rfl⟩⟩
  backToQuiet x listen h := ⟨h.places, h.credit, h.slots, h.gathered, fun _ => h.withdrawn (.inr (.inr listen))⟩
  toQuiet x _ h := ⟨by
      have kept := (trimBuffer_prefix x.rx).length_le
      have places := h.places
      simp only [Port.toQuiet]
      omega,
    Nat.zero_le _, h.slots, h.gathered, fun _ => ⟨rfl, rfl⟩⟩
  lost x h := ⟨h.places, h.credit, Nat.zero_le _, h.gathered, h.withdrawn⟩
  received x c up granted h := ⟨by
      have places := h.places
      simp only [List.length_append, List.length_cons, List.length_nil]
      omega,
    h.credit, h.slots, h.gathered, by simp [Port.heard, up]⟩
  linked x _ h := ⟨h.places, show 8 ≤ 64 by decide, h.slots, h.gathered, nofun⟩
  credited x up room h := ⟨h.places, room, h.slots, h.gathered, by simp [Port.heard, up]⟩
  answered x _ h := ⟨h.places, h.credit, h.slots, h.gathered, nofun⟩
  heard x _ h := ⟨h.places, h.credit, h.slots, h.gathered, h.withdrawn⟩
  listening x quiet h := ⟨h.places, h.credit, h.slots, h.gathered, fun _ => h.withdrawn (.inr (.inl quiet))⟩
  idleSent x h := ⟨h.places, h.credit, h.slots, h.gathered, h.withdrawn⟩
  grantSent x owed h := by
    simp only [Port.grantOwed, Bool.and_eq_true, Bool.or_eq_true, decide_eq_true_eq] at owed
    refine ⟨?_, h.credit, h.slots, h.gathered, fun down => ?_⟩
    · show x.rx.length + (x.outstanding + 8) ≤ 32
      have := owed.2
      simp only [Config.grantSize, Config.bufferPlaces] at this
      omega
    · simp only [Port.sendGrant] at down
      rcases owed.1 with link | link <;> simp [link] at down
  dataSent x b t up h := ⟨h.places, (Nat.sub_le _ _).trans h.credit, h.slots, h.gathered,
    by simp [Port.sendData, up]⟩
  endSent x t up h := by
    have slots : (x.sendEnd t).responses.length ≤ 2 := by
      have := h.slots
      cases t
      · rw [Port.sendEnd, List.length_tail]; omega
      · exact this
    have down : (x.sendEnd t).link = .up := by cases t <;> exact up
    have credit : (x.sendEnd t).credit ≤ 64 := by cases t <;> exact (Nat.sub_le _ _).trans h.credit
    refine ⟨?_, credit, slots, ?_, by simp [down]⟩ <;> cases t
    · exact h.places
    · exact h.places
    · exact h.gathered
    · exact h.gathered

/-- The deadlines and the transmission of each link state under each change of chapters 7 and 9. -/
theorem portDeadlines_linkLaw : LinkLaw PortDeadlines where
  off x _ := ⟨by simp [Port.goOff], by simp [Port.goOff], by simp [Port.goOff], by simp [Port.goOff]⟩
  started x _ := ⟨by simp [Port.startLink], by simp [Port.startLink], by simp [Port.startLink],
    by simp [Port.startLink]⟩
  stored x r h := ⟨h.holdoff, h.handshake, h.disconnect, h.sending⟩
  responded x b _ h := ⟨h.holdoff, h.handshake, h.disconnect, h.sending⟩
  assembled x a _ h := ⟨h.holdoff, h.handshake, h.disconnect, h.sending⟩
  taken x c rest _ h := ⟨h.holdoff, h.handshake, h.disconnect, h.sending⟩
  silent := ⟨by decide, by decide, by decide, by decide⟩
  holdingOff := ⟨by decide, by decide, by decide, by decide⟩
  backToQuiet x listen h := ⟨by simp [Port.backToQuiet], by simp [Port.backToQuiet], by simp [Port.backToQuiet],
    fun sending => nomatch listen.symm.trans (h.sending sending)⟩
  toQuiet x due h := ⟨by simp [Port.toQuiet], by simp [Port.toQuiet], by simp [Port.toQuiet], fun sending => by
    rcases due with handshake | ⟨_, unsent⟩
    · exact nomatch handshake.symm.trans (h.sending sending)
    · exact absurd sending (by simp [Port.toQuiet, unsent])⟩
  lost x h := ⟨h.holdoff, h.handshake, h.disconnect, nofun⟩
  received x c up _ h := ⟨h.holdoff, h.handshake, by simp [Port.heard, up], h.sending⟩
  linked x handshake h := ⟨by simpa [Port.heard, handshake] using h.holdoff, by simp,
    by simp [Port.heard], fun _ => rfl⟩
  credited x up _ h := ⟨h.holdoff, h.handshake, by simp [Port.heard, up], h.sending⟩
  answered x listen h := ⟨by simpa [Port.heard, listen] using h.holdoff, by simp, by simp [Port.heard],
    fun sending => nomatch listen.symm.trans (h.sending sending)⟩
  heard x linked h := ⟨h.holdoff, h.handshake, by simpa [Port.heard] using linked, h.sending⟩
  listening x quiet h := ⟨by simp, by simpa [quiet] using h.handshake, by simpa [quiet] using h.disconnect,
    fun sending => nomatch quiet.symm.trans (h.sending sending)⟩
  idleSent x h := ⟨h.holdoff, h.handshake, h.disconnect, h.sending⟩
  grantSent x _ h := ⟨h.holdoff, h.handshake, h.disconnect, h.sending⟩
  dataSent x b t up h := ⟨h.holdoff, h.handshake, h.disconnect, fun _ => up⟩
  endSent x t up h := by
    cases t <;> exact ⟨h.holdoff, h.handshake, h.disconnect, fun _ => up⟩

/-- Settles O56: both laws stand every change that packets and links make to a port's record. -/
theorem stepKeepsThePortLaws : Obligations.StepKeepsThePortLaws :=
  ⟨fun _ _ => portFlow_linkLaw.step, fun _ _ => portDeadlines_linkLaw.step⟩

end Sys2Proof.Machine
end

section
/-! PROOFS. The id of a new entry (R23): the ids that the next-id counter runs through, and the first of them that no
entry holds. -/

namespace Sys2Proof.Machine

open Sys2Proof

/-- The id reached from c after i steps of the counter (R23). -/
abbrev idFrom (c : Byte) (i : Nat) : Byte := Nat.repeat nextIdAfter i c

theorem idFrom_succ (c : Byte) (i : Nat) : idFrom c (i + 1) = idFrom (nextIdAfter c) i := by
  induction i with
  | zero => rfl
  | succ i ih => exact congrArg nextIdAfter ih

theorem toNat_nextIdAfter {c : Byte} (assigned : c ≠ 0#8) : (nextIdAfter c).toNat = c.toNat % 255 + 1 := by
  have positive : c.toNat ≠ 0 := fun zero => assigned (BitVec.eq_of_toNat_eq zero)
  unfold nextIdAfter
  split
  next last => rw [last]; rfl
  next below =>
    have small : c.toNat ≠ 255 := fun last => below (BitVec.eq_of_toNat_eq last)
    rw [BitVec.toNat_add]
    simp only [BitVec.toNat_ofNat]
    omega

theorem idFrom_ne_zero {c : Byte} (assigned : c ≠ 0#8) (i : Nat) : idFrom c i ≠ 0#8 := by
  cases i with
  | zero => exact assigned
  | succ i => exact nextIdAfter_ne_zero _

/-- From an assigned id on the counter runs through 1 to 255 in a ring. -/
theorem toNat_idFrom {c : Byte} (assigned : c ≠ 0#8) (i : Nat) :
    (idFrom c i).toNat = (c.toNat - 1 + i) % 255 + 1 := by
  have positive : c.toNat ≠ 0 := fun zero => assigned (BitVec.eq_of_toNat_eq zero)
  induction i with
  | zero =>
    show c.toNat = _
    omega
  | succ i ih =>
    show (nextIdAfter (idFrom c i)).toNat = _
    rw [toNat_nextIdAfter (idFrom_ne_zero assigned i), ih]
    omega

/-- Twelve ids in a row are different, from id 0 on as well. -/
theorem idFrom_injective (c : Byte) {i j : Nat} (hi : i < 12) (hj : j < 12) (same : idFrom c i = idFrom c j) :
    i = j := by
  have values : (idFrom c i).toNat = (idFrom c j).toNat := congrArg BitVec.toNat same
  by_cases unassigned : c = 0#8
  · subst unassigned
    have one : nextIdAfter 0#8 = 1#8 := by decide
    have value (k : Nat) (small : k < 12) : (idFrom 0#8 k).toNat = k := by
      cases k with
      | zero => rfl
      | succ k =>
        rw [idFrom_succ, one, toNat_idFrom (by decide)]
        simp only [BitVec.toNat_ofNat]
        omega
    rwa [value i hi, value j hj] at values
  · rw [toNat_idFrom unassigned, toNat_idFrom unassigned] at values
    omega

/-- The search stops at the first id that is not held, or at its last step. -/
theorem freeIdWithin_spec (table : List Entry) (k : Nat) (c : Byte) :
    ∃ i ≤ k, freeIdWithin table k c = idFrom c i ∧ (∀ j < i, ∃ e ∈ table, e.id = idFrom c j) ∧
      (i < k → ∀ e ∈ table, e.id ≠ idFrom c i) := by
  induction k generalizing c with
  | zero => exact ⟨0, le_rfl, rfl, fun _ h => absurd h (Nat.not_lt_zero _), fun h => absurd h (lt_irrefl _)⟩
  | succ k ih =>
    unfold freeIdWithin
    split
    next held =>
      obtain ⟨i, within, found, before, free⟩ := ih (nextIdAfter c)
      refine ⟨i + 1, Nat.succ_le_succ within, ?_, ?_, ?_⟩
      · rw [idFrom_succ]; exact found
      · intro j below
        cases j with
        | zero => exact (by simpa using held : ∃ e ∈ table, e.id = c)
        | succ j => rw [idFrom_succ]; exact before j (Nat.lt_of_succ_lt_succ below)
      · intro below
        rw [idFrom_succ]
        exact free (Nat.lt_of_succ_lt_succ below)
    next free =>
      exact ⟨0, Nat.zero_le _, rfl, fun _ h => absurd h (Nat.not_lt_zero _), fun _ =>
        (by simpa using free : ∀ e ∈ table, e.id ≠ c)⟩

/-- A table of fewer than twelve entries does not hold twelve ids in a row. -/
theorem exists_idFrom_free {table : List Entry} (room : table.length ≤ 11) (c : Byte) :
    ∃ i < 12, ∀ e ∈ table, e.id ≠ idFrom c i := by
  by_contra held
  push Not at held
  have distinct : ((List.range 12).map (idFrom c)).Nodup :=
    List.Nodup.map_on (fun i hi j hj => idFrom_injective c (List.mem_range.mp hi) (List.mem_range.mp hj))
      List.nodup_range
  have within : (List.range 12).map (idFrom c) ⊆ table.map (fun e => e.id) := by
    intro id member
    obtain ⟨i, small, rfl⟩ := List.mem_map.mp member
    obtain ⟨e, found, same⟩ := held i (List.mem_range.mp small)
    exact List.mem_map.mpr ⟨e, found, same⟩
  have count := (distinct.subperm within).length_le
  simp only [List.length_map, List.length_range] at count
  omega

/-- The id of a new entry: where the counter finds it, and that no entry holds it (R23). -/
theorem State.freeId_spec {s : State} (room : s.table.length ≤ 11) :
    ∃ i < 12, s.freeId = idFrom s.nextId i ∧ (∀ j < i, ∃ e ∈ s.table, e.id = idFrom s.nextId j) ∧
      ∀ e ∈ s.table, e.id ≠ s.freeId := by
  obtain ⟨i, within, found, before, free⟩ := freeIdWithin_spec s.table 12 s.nextId
  obtain ⟨j, small, unheld⟩ := exists_idFrom_free room s.nextId
  have below : i < 12 := by
    by_contra last
    obtain ⟨e, member, same⟩ := before j (by omega)
    exact unheld e member same
  exact ⟨i, below, found, before, by rw [State.freeId]; exact found ▸ free below⟩

theorem State.freeId_free {s : State} (room : s.table.length ≤ 11) : ∀ e ∈ s.table, e.id ≠ s.freeId := by
  obtain ⟨_, _, _, _, free⟩ := State.freeId_spec room
  exact free

theorem State.freeId_ne_zero {s : State} (room : s.table.length ≤ 11) (assigned : s.nextId ≠ 0#8) :
    s.freeId ≠ 0#8 := by
  obtain ⟨i, _, found, _⟩ := State.freeId_spec room
  rw [found]
  exact idFrom_ne_zero assigned i

/-- Settles O22: among twelve different ids in a row one is free, and the search takes the first. -/
theorem theNewIdIsTheFirstFreeOne : Obligations.TheNewIdIsTheFirstFreeOne := by
  intro s room assigned
  obtain ⟨i, below, found, before, free⟩ := State.freeId_spec room
  exact ⟨State.freeId_ne_zero room assigned, free, i, below, found, before⟩

end Sys2Proof.Machine
end

section
/-! PROOFS. The laws of the line records under every step (R2 to R4, R57, R59, R71, R76, R106). -/

namespace Sys2Proof.Machine

open Sys2Proof

/-! ### One line record -/

namespace LineLaw

variable {l : Line}

/-- The start of settling reads the check alone (R76). -/
theorem settleOnChange (h : LineLaw l) (now : W32) : LineLaw (l.settleOnChange now) := by
  unfold Line.settleOnChange
  split
  next check => exact { h with off := by simp [check], settle := by simp }
  · exact h

/-- A LEASED or QUORUM line may be commanded; one without an owner stays RELEASED on a LEASED line (R57, R62, R63). -/
theorem command (h : LineLaw l) {c : Commanded} {d : Option Deadline}
    (policy : l.cfg.policy = .leased ∨ l.cfg.policy = .quorum)
    (unowned : l.cfg.policy = .leased → l.owner = none → c = .released) (pulse : d.isSome = true → c = .active) :
    LineLaw { l with commanded := c, pulse := d } where
  shared shared := by rcases policy with p | p <;> exact nomatch shared.symm.trans p
  unshared := h.unshared
  leased := h.leased
  unowned := unowned
  fixed fixed := by rcases policy with p | p <;> exact nomatch fixed.symm.trans p
  lease := h.lease
  pulse running := ⟨pulse running, policy⟩
  off := h.off
  settle := h.settle

/-- The assertion set of a SHARED line decides its commanded state (R4, R55, R56). -/
theorem assertions (h : LineLaw l) {set : MasterSet} {c : Commanded} (shared : l.cfg.policy = .shared)
    (active : c = .active ↔ set ≠ 0#4) : LineLaw { l with asserted := set, commanded := c } where
  shared _ := active
  unshared other := absurd shared other
  leased := h.leased
  unowned leased := nomatch shared.symm.trans leased
  fixed fixed := nomatch shared.symm.trans fixed
  lease := h.lease
  pulse running := by rcases (h.pulse running).2 with p | p <;> exact nomatch shared.symm.trans p
  off := h.off
  settle := h.settle

theorem addAssertion (h : LineLaw l) (shared : l.cfg.policy = .shared) (m : MasterId) :
    LineLaw (l.addAssertion m) := by
  refine h.assertions shared (iff_of_true rfl ?_)
  have member : ∀ (set : MasterSet) (m : MasterId), addBit set m.val ≠ 0#4 := by decide
  exact member l.asserted m

theorem dropAssertion (h : LineLaw l) (shared : l.cfg.policy = .shared) (m : MasterId) :
    LineLaw (l.dropAssertion m) := by
  refine h.assertions shared ?_
  split
  next empty => exact iff_of_false nofun (not_not.mpr empty)
  next member => exact iff_of_true rfl member

theorem takeLease (h : LineLaw l) (leased : l.cfg.policy = .leased) (m : MasterId) (now : W32) (d : W16) :
    LineLaw (l.takeLease m now d) :=
  { h with leased := absurd leased, unowned := nofun, lease := rfl }

/-- A RELEASED line without an owner and without assertions agrees with every policy. -/
theorem of_released {l : Line} (released : l.commanded = .released) (asserted : l.asserted = 0#4)
    (owner : l.owner = none) (lease : l.lease = none) (pulse : l.pulse = none)
    (off : l.feedback = .off ↔ l.cfg.feedback = false) (settle : l.feedback = .settling ↔ l.settle.isSome = true) :
    LineLaw l where
  shared _ := by simp [released, asserted]
  unshared _ := asserted
  leased _ := owner
  unowned _ _ := released
  fixed _ := released
  lease := by rw [lease, owner]; rfl
  pulse running := by rw [pulse] at running; nomatch running
  off := off
  settle := settle

theorem dropLease (h : LineLaw l) (leased : l.cfg.policy = .leased) : LineLaw l.dropLease :=
  .of_released rfl (h.unshared (by rw [leased]; nofun)) rfl rfl rfl h.off h.settle

theorem onReset (h : LineLaw l) : LineLaw l.onReset := .of_released rfl rfl rfl rfl rfl h.off h.settle

theorem applied (now : W32) (cfg : LineConfig) : LineLaw (appliedLine now cfg) := by
  refine .of_released rfl rfl rfl rfl rfl ?_ ?_ <;> cases check : cfg.feedback <;> simp [appliedLine, check]

theorem unpulsed (h : LineLaw l) : LineLaw (unpulsed l) := by
  unfold Machine.unpulsed
  split
  next running => exact h.command (h.pulse running).2 (fun _ _ => rfl) nofun
  · exact h

/-- A line whose check is on may take another feedback state that is not SETTLING (R78, R79). -/
theorem compared (h : LineLaw l) (check : l.feedback ≠ .off) {f : FeedbackState} (on : f ≠ .off)
    (compared : f ≠ .settling) : LineLaw { l with feedback := f, settle := none } :=
  { h with off := iff_of_false on fun off => check (h.off.mpr off), settle := by simp [compared] }

end LineLaw

/-- A line clear leaves the record of a line after reset, with its configuration part (R9, R77). -/
theorem Line.clear_eq (now : W32) (l : Line) : l.clear now = appliedLine now l.cfg := by
  cases check : l.cfg.feedback <;> simp [Line.clear, Line.restartComparison, appliedLine, check]

theorem appliedLine_settleOnChange (now : W32) (cfg : LineConfig) :
    (appliedLine now cfg).settleOnChange now = appliedLine now cfg := by
  cases check : cfg.feedback <;> simp [Line.settleOnChange, appliedLine, check]

/-- What the report of a lease end does to the lines: nothing. -/
@[simp] theorem leaseEndReport_line (n k : LineId) (m : MasterId) (reason : LeaseReason) (s : State) :
    (leaseEndReport n m reason s).line k = s.line k := by
  rw [leaseEndReport_frame]; rfl

/-- What a line clear leaves of the lines (R9). -/
theorem lineClear_line (n k : LineId) (reason : LeaseReason) (cause : Cause) (before : Level) (s : State) :
    (lineClear n reason cause before s).line k = if k = n then appliedLine s.count (s.line n).cfg else s.line k := by
  have reported (t : State) (cleared : Claimed s t)
      (line : ∀ k, t.line k = (s.updLine n (Line.clear s.count)).line k) :
      (reportChange n before cause t).line k =
        if k = n then appliedLine s.count (s.line n).cfg else s.line k := by
    rw [reportChange_anyLine, line, State.updLine_line, cleared.count, Line.clear_eq]
    by_cases same : k = n <;> simp [same, appliedLine_settleOnChange]
  unfold lineClear
  dsimp only
  split
  · exact reported _ (updLine_claimed s n _) fun _ => rfl
  · exact reported _ ((updLine_claimed s n _).trans (leaseEndReport_claimed _ n _ reason))
      fun _ => leaseEndReport_line _ _ _ _ _

/-! ### The table and its entries -/

/-- Members of a list that a function tells apart are equal when it does not tell them apart. -/
theorem eq_of_pairwise_ne {α β : Type} {f : α → β} {l : List α} (apart : l.Pairwise fun a b => f a ≠ f b) {a b : α}
    (ha : a ∈ l) (hb : b ∈ l) (same : f a = f b) : a = b :=
  List.inj_on_of_nodup_map (List.pairwise_map.mpr apart) ha hb same

/-- What tells an entry from the others: its id and its subject (R21, R23). -/
abbrev Entry.key (e : Entry) : Byte × Subject := (e.id, e.subject)

section

variable {l l' : List Entry} (keys : (l'.map Entry.key).Sublist (l.map Entry.key))

include keys

theorem exists_mem_of_keys {e : Entry} (member : e ∈ l') : ∃ x ∈ l, x.id = e.id ∧ x.subject = e.subject := by
  obtain ⟨x, found, equal⟩ := List.mem_map.mp (keys.subset (List.mem_map_of_mem member))
  exact ⟨x, found, congrArg Prod.fst equal, congrArg Prod.snd equal⟩

theorem length_le_of_keys : l'.length ≤ l.length := by simpa using keys.length_le

theorem ids_of_keys (ids : l.Pairwise fun a b => a.id ≠ b.id) : l'.Pairwise fun a b => a.id ≠ b.id := by
  have iff (l : List Entry) := List.pairwise_map (l := l) (f := Entry.key) (R := fun a b => a.1 ≠ b.1)
  exact (iff _).mp (((iff _).mpr ids).sublist keys)

theorem alone_of_keys (alone : l.Pairwise fun a b => ∀ n, a.subject = .line n → b.subject ≠ .line n) :
    l'.Pairwise fun a b => ∀ n, a.subject = .line n → b.subject ≠ .line n := by
  have iff (l : List Entry) := List.pairwise_map (l := l) (f := Entry.key)
    (R := fun a b => ∀ n, a.2 = Subject.line n → b.2 ≠ .line n)
  exact (iff _).mp (((iff _).mpr alone).sublist keys)

end

/-- The table may lose entries and have others changed in their place; lines, pins and configuration stand. -/
structure TableKept (s t : State) : Prop where
  frame : t = { s with table := t.table, session := t.session, status := t.status }
  keys : (t.table.map Entry.key).Sublist (s.table.map Entry.key)

theorem TableKept.refl (s : State) : TableKept s s := ⟨rfl, .refl _⟩

theorem TableKept.trans {s t u : State} (first : TableKept s t) (second : TableKept t u) : TableKept s u :=
  ⟨by rw [second.frame, first.frame], second.keys.trans first.keys⟩

/-- Every entry of the table with the id of e has its subject. -/
def State.knows (s : State) (e : Entry) : Prop := ∀ x ∈ s.table, x.id = e.id → x.subject = e.subject

theorem TableKept.knows {s t : State} (kept : TableKept s t) {e : Entry} (known : s.knows e) : t.knows e := by
  intro x member same
  obtain ⟨y, found, ids, subjects⟩ := exists_mem_of_keys kept.keys member
  exact subjects.symm.trans (known y found (ids.trans same))

theorem putEntry_kept {s : State} {e : Entry} (known : s.knows e) : TableKept s (s.putEntry e) := by
  refine ⟨rfl, ?_⟩
  have keys : (s.putEntry e).table.map Entry.key = s.table.map Entry.key := by
    simp only [State.putEntry, State.setTable_table, List.map_map]
    refine List.map_congr_left fun x member => ?_
    by_cases same : x.id = e.id
    · simp [same, known x member same]
    · simp [same]
  rw [keys]

theorem endEntry_kept (s : State) (e : Entry) (out : EntryOutcome) : TableKept s (endEntry e out s) := by
  refine ⟨by rw [endEntry_frame], ?_⟩
  rw [endEntry_frame]
  exact (List.filter_sublist).map _

theorem takeVote_kept {s : State} {e : Entry} (known : s.knows e) (m : MasterId) : TableKept s (takeVote m e s) := by
  unfold takeVote
  dsimp only
  split
  · exact endEntry_kept s _ _
  · split <;> exact putEntry_kept known

theorem cancelOn_kept (s : State) (sub : Subject) : TableKept s (cancelOn sub s) := by
  unfold cancelOn
  split
  · exact .refl s
  · exact endEntry_kept s _ _

theorem endSession_kept (s : State) : TableKept s (endSession s) := by
  unfold endSession
  split
  · have ended : TableKept s (s.setSession .none) := ⟨rfl, .refl _⟩
    exact ended.trans (cancelOn_kept _ _)
  · exact ⟨rfl, .refl _⟩

theorem endSessionOf_kept (s : State) (m : MasterId) : TableKept s (endSessionOf m s) := by
  unfold endSessionOf
  split
  · exact endSession_kept s
  · exact .refl s

/-- Votes taken back from known entries, one after another. -/
theorem foldl_removeVote_kept (m : MasterId) (l : List Entry) {s : State} (known : ∀ e ∈ l, s.knows e) :
    TableKept s (l.foldl (removeVote m) s) := by
  induction l generalizing s with
  | nil => exact .refl s
  | cons e l ih =>
    have first : TableKept s (removeVote m s e) := by
      unfold removeVote
      split
      · exact takeVote_kept (known e List.mem_cons_self) m
      · exact .refl s
    exact first.trans (ih fun x member => first.knows (known x (List.mem_cons_of_mem _ member)))

namespace LineInv

variable {s t : State}

/-- An entry of the table is known by its id. -/
theorem knows (h : LineInv s) {e : Entry} (member : e ∈ s.table) : s.knows e := by
  intro x found same
  rw [eq_of_pairwise_ne h.ids found member same]

theorem removeVotes_kept (h : LineInv s) (m : MasterId) : TableKept s (removeVotes m s) :=
  foldl_removeVote_kept m s.table fun _ member => h.knows member

/-! ### What keeps the laws -/

/-- The laws read the reset pin, the qualified HOLD level, the lines, the configuration and the table. -/
theorem congr (h : LineInv s) (rstn : t.rstn = s.rstn) (hold : t.hold = s.hold) (lines : t.lines = s.lines)
    (config : t.config = s.config) (table : t.table = s.table) : LineInv t := by
  have line (n : LineId) : t.line n = s.line n := congrArg (fun v => Vector.get v n) lines
  exact ⟨by simpa only [line] using h.law, by simpa only [line, rstn, config] using h.copy,
    by simpa only [line, hold] using h.held, by simpa only [line, table] using h.quorum,
    table ▸ h.alone, table ▸ h.size, table ▸ h.ids⟩

theorem raise (h : LineInv s) (nt : Notice) : LineInv (raise nt s) := h.congr rfl rfl rfl rfl rfl

theorem setFlag (h : LineInv s) (m : MasterId) (f : Flag) : LineInv (setFlag m f s) := h.congr rfl rfl rfl rfl rfl

theorem setStat (h : LineInv s) (m : MasterId) (r : StatusRecord) : LineInv (s.setStat m r) :=
  h.congr rfl rfl rfl rfl rfl

theorem setMaster (h : LineInv s) (m : MasterId) (r : Master) : LineInv (s.setMaster m r) :=
  h.congr rfl rfl rfl rfl rfl

theorem setSession (h : LineInv s) (x : Session) : LineInv (s.setSession x) := h.congr rfl rfl rfl rfl rfl

/-- Lines that change under the same configuration. -/
theorem of_lines (h : LineInv s) (frame : t = { s with lines := t.lines, status := t.status })
    (law : ∀ n, LineLaw (t.line n)) (cfg : ∀ n, (t.line n).cfg = (s.line n).cfg)
    (held : s.hold.qualified = .asserted → ∀ n, (t.line n).pulse = none) : LineInv t := by
  have rstn : t.rstn = s.rstn := by rw [frame]
  have hold : t.hold = s.hold := by rw [frame]
  have config : t.config = s.config := by rw [frame]
  have table : t.table = s.table := by rw [frame]
  exact ⟨law, by simpa only [cfg, rstn, config] using h.copy, by rwa [hold],
    by simpa only [cfg, table] using h.quorum, table ▸ h.alone, table ▸ h.size, table ▸ h.ids⟩

theorem of_table (h : LineInv s) (kept : TableKept s t) : LineInv t := by
  have rstn : t.rstn = s.rstn := by rw [kept.frame]
  have hold : t.hold = s.hold := by rw [kept.frame]
  have config : t.config = s.config := by rw [kept.frame]
  have line (n : LineId) : t.line n = s.line n := by rw [kept.frame]; rfl
  refine ⟨by simpa only [line] using h.law, by simpa only [line, rstn, config] using h.copy,
    by simpa only [line, hold] using h.held, fun e member n on => ?_, alone_of_keys kept.keys h.alone,
    (length_le_of_keys kept.keys).trans h.size, ids_of_keys kept.keys h.ids⟩
  obtain ⟨x, found, _, subject⟩ := exists_mem_of_keys kept.keys member
  rw [line]
  exact h.quorum x found n (subject.trans on)

/-- One line that changes. -/
theorem of_line (h : LineInv s) (n : LineId) (frame : t = { s with lines := t.lines, status := t.status })
    (others : ∀ k, k ≠ n → t.line k = s.line k) (law : LineLaw (t.line n)) (cfg : (t.line n).cfg = (s.line n).cfg)
    (held : s.hold.qualified = .asserted → (t.line n).pulse = none) : LineInv t := by
  refine h.of_lines frame (fun k => ?_) (fun k => ?_) fun asserted k => ?_ <;> by_cases same : k = n
  · exact same ▸ law
  · rw [others k same]; exact h.law k
  · exact same ▸ cfg
  · rw [others k same]
  · exact same ▸ held asserted
  · rw [others k same]; exact h.held asserted k

theorem updLine (h : LineInv s) (n : LineId) {f : Line → Line} (law : LineLaw (f (s.line n)))
    (cfg : (f (s.line n)).cfg = (s.line n).cfg)
    (held : s.hold.qualified = .asserted → (f (s.line n)).pulse = none) : LineInv (s.updLine n f) := by
  refine h.of_line n rfl (fun k other => State.updLine_line_other s n k f other) ?_ ?_ ?_ <;>
    rw [State.updLine_line_same]
  · exact law
  · exact cfg
  · exact held

/-- A report starts settling at most (R7, R76). -/
theorem reportChange (h : LineInv s) (n : LineId) (before : Level) (cause : Cause) :
    LineInv (reportChange n before cause s) := by
  have settles (l : Line) : (l.settleOnChange s.count).cfg = l.cfg ∧ (l.settleOnChange s.count).pulse = l.pulse := by
    unfold Line.settleOnChange; split <;> exact ⟨rfl, rfl⟩
  refine h.of_lines (reportChange_frame s n before cause) (fun k => ?_) (fun k => ?_) fun asserted k => ?_ <;>
    rw [reportChange_anyLine] <;> split
  · exact (h.law k).settleOnChange _
  · exact h.law k
  · exact (settles _).1
  · rfl
  · rw [(settles _).2]; exact h.held asserted k
  · exact h.held asserted k

theorem lineClaim (h : LineInv s) (n : LineId) (cause : Cause) {f : Line → Line} (law : LineLaw (f (s.line n)))
    (cfg : (f (s.line n)).cfg = (s.line n).cfg)
    (held : s.hold.qualified = .asserted → (f (s.line n)).pulse = none) : LineInv (lineClaim n cause f s) :=
  (h.updLine n law cfg held).reportChange n _ cause

/-- A LEASED or QUORUM line that is commanded without a pulse. -/
theorem command (h : LineInv s) (n : LineId) (cause : Cause) {c : Commanded}
    (policy : (s.line n).cfg.policy = .leased ∨ (s.line n).cfg.policy = .quorum)
    (unowned : (s.line n).cfg.policy = .leased → (s.line n).owner = none → c = .released) :
    LineInv (Machine.lineClaim n cause (fun l => { l with commanded := c, pulse := none }) s) :=
  h.lineClaim n cause ((h.law n).command policy unowned nofun) rfl fun _ => rfl

theorem startPulse (h : LineInv s) (n : LineId) (cause : Cause) (d : W16) (unheld : s.held = false)
    (policy : (s.line n).cfg.policy = .leased ∨ (s.line n).cfg.policy = .quorum)
    (owned : (s.line n).cfg.policy = .leased → (s.line n).owner ≠ none) :
    LineInv (Machine.lineClaim n cause (Line.startPulse s.count d) s) := by
  refine h.lineClaim n cause ((h.law n).command policy (fun leased none => absurd none (owned leased)) fun _ => rfl)
    rfl fun asserted => ?_
  rw [s.held_iff.mpr asserted] at unheld
  nomatch unheld

theorem endLease (h : LineInv s) (n : LineId) (reason : LeaseReason) (cause : Cause) :
    LineInv (endLease n reason cause s) := by
  unfold Machine.endLease
  split
  · exact h
  next m owner =>
    have leased : (s.line n).cfg.policy = .leased := by
      by_contra other
      exact nomatch ((h.law n).leased other).symm.trans owner
    have dropped := h.updLine n (f := Line.dropLease) ((h.law n).dropLease leased) rfl fun _ => rfl
    refine LineInv.reportChange ?_ n _ cause
    rw [leaseEndReport_frame]
    exact dropped.congr rfl rfl rfl rfl rfl

theorem removeFromLine (h : LineInv s) (m : MasterId) (r : RemovalReason) (n : LineId) :
    LineInv (removeFromLine m r s n) := by
  unfold Machine.removeFromLine
  split
  next shared =>
    refine ite_keeps h fun _ => h.lineClaim n _ ((h.law n).dropAssertion shared m) rfl fun asserted => ?_
    exact h.held asserted n
  · exact ite_keeps h fun _ => h.endLease n _ _
  · exact h
  · exact h

theorem removeFromLines (h : LineInv s) (m : MasterId) (r : RemovalReason) : LineInv (removeFromLines m r s) := by
  unfold Machine.removeFromLines
  generalize allLines = ns
  induction ns generalizing s with
  | nil => exact h
  | cons n ns ih => exact ih (h.removeFromLine m r n)

theorem removalFanOut (h : LineInv s) (m : MasterId) (r : RemovalReason) : LineInv (removalFanOut m r s) := by
  have sessionless := (h.removeFromLines m r).of_table (endSessionOf_kept _ m)
  exact sessionless.of_table (sessionless.removeVotes_kept m)

theorem quarantineMaster (h : LineInv s) (m : MasterId) : LineInv (quarantineMaster m s) := by
  unfold Machine.quarantineMaster raiseMasterChanged
  exact (((h.setMaster m _).removalFanOut m .quarantine).setFlag m _).raise _

theorem expireMaster (h : LineInv s) (m : MasterId) : LineInv (expireMaster m s) := by
  unfold Machine.expireMaster raiseMasterChanged
  exact (((h.setMaster m _).removalFanOut m .absent).setStat m _).raise _

/-- An entry opens on a subject that no entry has, with a free id (R29). -/
theorem openEntry (h : LineInv s) {e : Entry} (room : s.table.length < 12) (free : ∀ x ∈ s.table, x.id ≠ e.id)
    (line : ∀ n, e.subject = .line n →
      (s.line n).cfg.policy = .quorum ∧ ∀ x ∈ s.table, x.subject ≠ .line n) : LineInv (openEntry e s) where
  law := h.law
  copy := h.copy
  held := h.held
  quorum x member n on := by
    rcases List.mem_append.mp member with old | new
    · exact h.quorum x old n on
    · rw [List.mem_singleton.mp new] at on
      exact (line n on).1
  alone := List.pairwise_append.mpr ⟨h.alone, List.pairwise_singleton _ _, fun x old y new n on other =>
    (line n ((List.mem_singleton.mp new) ▸ other)).2 x old on⟩
  size := by
    show (s.table ++ [e]).length ≤ 12
    simp only [List.length_append, List.length_singleton]
    omega
  ids := List.pairwise_append.mpr ⟨h.ids, List.pairwise_singleton _ _, fun x old y new =>
    (List.mem_singleton.mp new) ▸ free x old⟩

end LineInv
end Sys2Proof.Machine
end

section
/-! PROOFS. The line laws where entries are carried: the configuration apply (R120), the commanded restart (R19), the
requests that reach the table (R29 to R32), the HOLD events (R13, R15), and then every step. -/

namespace Sys2Proof.Machine

open Sys2Proof

/-! ### The lines of an apply and of a restart -/

theorem TableKept.line {s t : State} (kept : TableKept s t) (n : LineId) : t.line n = s.line n := by
  rw [kept.frame]; rfl

theorem TableKept.count {s t : State} (kept : TableKept s t) : t.count = s.count := by rw [kept.frame]

/-- A changed line is cleared under its new configuration part (R120). -/
theorem applyLine_line (old new : Configuration) (s : State) (n k : LineId) :
    (applyLine old new s n).line k =
      if k = n ∧ old.line n ≠ new.line n then appliedLine s.count (new.line n) else s.line k := by
  unfold applyLine
  split
  next same => simp [same]
  next changed =>
    rw [(cancelOn_kept _ _).line, lineClear_line, State.updLine_line_same]
    by_cases here : k = n
    · simp [here, changed]
    · simp [here]

theorem foldl_applyLine_line (old new : Configuration) (ns : List LineId) (s : State) (k : LineId) :
    (ns.foldl (applyLine old new) s).line k =
      if k ∈ ns ∧ old.line k ≠ new.line k then appliedLine s.count (new.line k) else s.line k := by
  induction ns generalizing s with
  | nil => simp
  | cons n ns ih =>
    rw [List.foldl_cons, ih, (applyLine_claimed s old new n).count, applyLine_line]
    by_cases here : k = n
    · subst here
      by_cases changed : old.line k = new.line k <;> simp [changed]
    · simp [here]

theorem noticeLostInTransmission_frame (p : PortId) (s : State) :
    noticeLostInTransmission p s = { s with status := (noticeLostInTransmission p s).status } := by
  unfold noticeLostInTransmission; split <;> rfl

/-- Switching a port writes the ports and the status records alone (R188, R189). -/
theorem switchPort_frame (old new : PortSet) (s : State) (p : PortId) :
    switchPort old new s p =
      { s with ports := (switchPort old new s p).ports, status := (switchPort old new s p).status } := by
  unfold switchPort
  split
  · rw [disablePort, noticeLostInTransmission_frame]; rfl
  · split
    · unfold enablePort
      split <;> rfl
    · rfl

theorem switchPorts_frame (old new : PortSet) (s : State) :
    switchPorts old new s =
      { s with ports := (switchPorts old new s).ports, status := (switchPorts old new s).status } := by
  unfold switchPorts
  generalize allMasters = ps
  induction ps generalizing s with
  | nil => rfl
  | cons p ps ih => rw [List.foldl_cons, ih, switchPort_frame]

/-- The changed lines of an apply write the lines, the table, the session and the status records alone (R120). -/
theorem applyLine_frame (old new : Configuration) (s : State) (n : LineId) :
    applyLine old new s n = { s with
      lines := (applyLine old new s n).lines, table := (applyLine old new s n).table,
      session := (applyLine old new s n).session, status := (applyLine old new s n).status } := by
  unfold applyLine
  split
  · rfl
  · rw [(cancelOn_kept _ _).frame, lineClear_frame]; rfl

theorem foldl_applyLine_frame (old new : Configuration) (ns : List LineId) (s : State) :
    ns.foldl (applyLine old new) s = { s with
      lines := (ns.foldl (applyLine old new) s).lines, table := (ns.foldl (applyLine old new) s).table,
      session := (ns.foldl (applyLine old new) s).session,
      status := (ns.foldl (applyLine old new) s).status } := by
  induction ns generalizing s with
  | nil => rfl
  | cons n ns ih => rw [List.foldl_cons, ih, applyLine_frame]

/-- An apply in its steps (R119 to R123). -/
theorem applyConfig_eq (sh : Configuration) (rev : W16) (s : State) :
    applyConfig sh rev s =
      let lined := allLines.foldl (applyLine s.config sh)
        { s with generation := s.generation + 1#16, config := sh }
      let switched := switchPorts s.config.globals.ports sh.globals.ports lined
      (raise (.configApplied switched.generation rev (changedLines s.config sh)
        (s.config.globals ≠ sh.globals) sh.globals.ports) switched).setSession .none := rfl

/-- An apply clears each line whose configuration part it changes, and keeps the others (R120). -/
theorem applyConfig_line (sh : Configuration) (rev : W16) (s : State) (n : LineId) :
    (applyConfig sh rev s).line n =
      if s.config.line n = sh.line n then s.line n else appliedLine s.count (sh.line n) := by
  rw [applyConfig_eq]
  simp only [State.setSession_line, raise_line]
  rw [switchPorts_frame]
  show State.line (allLines.foldl (applyLine s.config sh) _) n = _
  rw [foldl_applyLine_line]
  by_cases same : s.config.line n = sh.line n
  · rw [if_pos same, if_neg fun changed => changed.2 same]; rfl
  · rw [if_neg same, if_pos ⟨mem_allLines n, same⟩]

theorem restartLine_line (s : State) (n k : LineId) :
    (restartLine s n).line k = if k = n then appliedLine s.count (s.line n).cfg else s.line k := by
  unfold restartLine
  exact lineClear_line n k .restart .restart _ s

theorem restartLine_claimed (s : State) (n : LineId) : Claimed s (restartLine s n) := by
  unfold restartLine
  exact lineClear_claimed s n _ _ _

theorem foldl_restartLine_line (ns : List LineId) (s : State) (k : LineId) :
    (ns.foldl restartLine s).line k = if k ∈ ns then appliedLine s.count (s.line k).cfg else s.line k := by
  induction ns generalizing s with
  | nil => simp
  | cons n ns ih =>
    rw [List.foldl_cons, ih, restartLine_line]
    rw [(restartLine_claimed s n).count]
    by_cases here : k = n
    · subst here
      rw [if_pos rfl, if_pos List.mem_cons_self]
      split <;> rfl
    · simp only [here, if_false, List.mem_cons, false_or]

/-- A commanded restart clears every line under its configuration part (R19). -/
theorem commandedRestart_line (s : State) (n : LineId) :
    (commandedRestart s).line n = appliedLine s.count (s.line n).cfg := by
  have lines : (commandedRestart s).lines = (allLines.foldl restartLine s).lines := by
    unfold commandedRestart
    dsimp only
  rw [State.line, lines, ← State.line, foldl_restartLine_line, if_pos (mem_allLines n)]

/-! ### The laws without the copy -/

/-- The line laws but for the copies of the configuration, which an apply brings up to date line by line. -/
structure LineCore (s : State) : Prop where
  law : ∀ n, LineLaw (s.line n)
  held : s.hold.qualified = .asserted → ∀ n, (s.line n).pulse = none
  quorum : ∀ e ∈ s.table, ∀ n, e.subject = .line n → (s.line n).cfg.policy = .quorum
  alone : s.table.Pairwise fun a b => ∀ n, a.subject = .line n → b.subject ≠ .line n
  size : s.table.length ≤ 12
  ids : s.table.Pairwise fun a b => a.id ≠ b.id

theorem LineInv.core {s : State} (h : LineInv s) : LineCore s :=
  ⟨h.law, h.held, h.quorum, h.alone, h.size, h.ids⟩

theorem LineCore.inv {s : State} (h : LineCore s) (copy : s.rstn = .high → ∀ n, (s.line n).cfg = s.config.line n) :
    LineInv s := ⟨h.law, copy, h.held, h.quorum, h.alone, h.size, h.ids⟩

theorem LineCore.congr {s t : State} (h : LineCore s) (hold : t.hold = s.hold) (lines : t.lines = s.lines)
    (table : t.table = s.table) : LineCore t := by
  have line (n : LineId) : t.line n = s.line n := congrArg (fun v => Vector.get v n) lines
  exact ⟨by simpa only [line] using h.law, by simpa only [line, hold] using h.held,
    by simpa only [line, table] using h.quorum, table ▸ h.alone, table ▸ h.size, table ▸ h.ids⟩

theorem endEntry_table (s : State) (e : Entry) (out : EntryOutcome) :
    (endEntry e out s).table = s.table.filter fun x => x.id ≠ e.id := by
  rw [endEntry_frame]

/-- Two entries on one line are the same (R21). -/
theorem eq_of_alone {l : List Entry}
    (alone : l.Pairwise fun a b => ∀ n, a.subject = .line n → b.subject ≠ .line n) {n : LineId} {a b : Entry}
    (ha : a ∈ l) (hb : b ∈ l) (on_a : a.subject = .line n) (on_b : b.subject = .line n) : a = b := by
  induction alone with
  | nil => nomatch ha
  | cons first _ ih =>
    rcases List.mem_cons.mp ha with rfl | later_a <;> rcases List.mem_cons.mp hb with rfl | later_b
    · rfl
    · exact absurd on_b (first b later_b n on_a)
    · exact absurd on_a (first a later_a n on_b)
    · exact ih later_a later_b

/-- Cancelling the entry on a line leaves no entry on it (R21, R47). -/
theorem subject_ne_of_cancelOn {s : State} {n : LineId}
    (alone : s.table.Pairwise fun a b => ∀ n, a.subject = .line n → b.subject ≠ .line n) :
    ∀ e ∈ (cancelOn (.line n) s).table, e.subject ≠ .line n := by
  unfold cancelOn
  split
  next none =>
    intro e member
    simpa using List.find?_eq_none.mp none e member
  next x found =>
    intro e member on
    rw [endEntry_table, List.mem_filter] at member
    have subject : x.subject = .line n := by simpa using List.find?_some found
    have same := eq_of_alone alone member.1 (List.mem_of_find?_eq_some found) on subject
    simp [same] at member

/-- A line whose configuration part changes starts afresh, and its entry leaves the table (R120). -/
theorem LineCore.applyLine {s : State} (h : LineCore s) (old new : Configuration) (n : LineId) :
    LineCore (applyLine old new s n) := by
  have line := applyLine_line old new s n
  have hold := (applyLine_claimed s old new n).hold
  by_cases same : old.line n = new.line n
  · rw [Machine.applyLine, if_pos same]; exact h
  simp only [same, ne_eq, not_false_eq_true, and_true] at line
  have cancelled : ∃ x, x.table = s.table ∧ Machine.applyLine old new s n = cancelOn (.line n) x := by
    refine ⟨_, ?_, by rw [Machine.applyLine, if_neg same]⟩
    rw [lineClear_frame]; rfl
  obtain ⟨x, table, eq⟩ := cancelled
  have kept := cancelOn_kept x (.line n)
  rw [← eq] at kept
  have keys := table ▸ kept.keys
  refine ⟨fun k => ?_, fun asserted k => ?_, fun e member k on => ?_, alone_of_keys keys h.alone,
    (length_le_of_keys keys).trans h.size, ids_of_keys keys h.ids⟩
  · rw [line]
    split
    · exact .applied _ _
    · exact h.law k
  · rw [line]
    split
    · rfl
    · exact h.held (hold ▸ asserted) k
  · have other : k ≠ n := by
      rintro rfl
      rw [eq] at member
      exact subject_ne_of_cancelOn (table ▸ h.alone) e member on
    obtain ⟨y, found, _, subject⟩ := exists_mem_of_keys keys member
    rw [line, if_neg other]
    exact h.quorum y found k (subject.trans on)

theorem LineCore.applyLines {s : State} (h : LineCore s) (old new : Configuration) (ns : List LineId) :
    LineCore (ns.foldl (Machine.applyLine old new) s) := by
  induction ns generalizing s with
  | nil => exact h
  | cons n ns ih => exact ih (h.applyLine old new n)

namespace LineInv

variable {s : State}

/-- After an apply every line has its part of the new configuration (R2, R120). -/
theorem applyConfig (h : LineInv s) (sh : Configuration) (rev : W16) : LineInv (applyConfig sh rev s) := by
  have config : (Machine.applyConfig sh rev s).config = sh := by
    rw [applyConfig_eq]
    dsimp only [State.setSession_config, raise_config]
    rw [switchPorts_frame]
    exact (foldl_applyLine_frame _ _ _ _) ▸ rfl
  refine LineCore.inv ?_ fun running n => ?_
  · have counted : LineCore { s with generation := s.generation + 1#16, config := sh } := h.core.congr rfl rfl rfl
    have lined := counted.applyLines s.config sh allLines
    rw [applyConfig_eq]
    refine LineCore.congr lined ?_ ?_ ?_ <;> dsimp only [State.setSession_hold, raise_hold] <;>
      rw [switchPorts_frame] <;> rfl
  · have high : s.rstn = .high := (applyConfig_claimed s sh rev).rstn ▸ running
    rw [config, applyConfig_line]
    split
    next same => rw [h.copy high n, same]
    · rfl

theorem commandedRestart (h : LineInv s) : LineInv (commandedRestart s) := by
  have table : (Machine.commandedRestart s).table = [] := by rw [commandedRestart_frame]
  have rstn : (Machine.commandedRestart s).rstn = s.rstn := by rw [commandedRestart_frame]
  have config : (Machine.commandedRestart s).config = s.config := by rw [commandedRestart_frame]
  refine ⟨fun n => ?_, fun running n => ?_, fun _ n => ?_, ?_, ?_, ?_, ?_⟩
  · rw [commandedRestart_line]; exact .applied _ _
  · rw [commandedRestart_line, config]; exact h.copy (rstn ▸ running) n
  · rw [commandedRestart_line]; rfl
  all_goals rw [table]
  · exact nofun
  · exact .nil
  · exact Nat.zero_le 12
  · exact .nil

end LineInv
end Sys2Proof.Machine
end

section
/-! PROOFS. The line laws under requests and events (R2 to R4, R57, R59, R71, R76, R106), and so under every step. -/

namespace Sys2Proof.Machine

open Sys2Proof

namespace LineInv

variable {s t : State}

/-! ### Carrying and proposals -/

/-- A carried entry commands a QUORUM line at most, and starts no pulse under HOLD (R39, R43). -/
theorem handOff (h : LineInv s) {e : Entry} (quorum : ∀ n, e.subject = .line n → (s.line n).cfg.policy = .quorum)
    (due : s.held = false ∨ e.activates = false) : LineInv (handOff e s) := by
  unfold Machine.handOff
  split
  case h_1 n on _ =>
    exact h.command n _ (.inr (quorum n on)) fun leased => nomatch leased.symm.trans (quorum n on)
  case h_2 n on _ => exact h.command n _ (.inr (quorum n on)) fun _ _ => rfl
  case h_3 n on pulse =>
    have unheld : s.held = false := due.resolve_right fun idle => by simp [Entry.activates, on, pulse] at idle
    exact h.startPulse n _ _ unheld (.inr (quorum n on)) fun leased => nomatch leased.symm.trans (quorum n on)
  case h_4 => exact h.quarantineMaster _
  case h_5 => exact (h.setMaster _ _).raise _
  case h_6 =>
    split
    · exact h.applyConfig _ _
    · exact h
  case h_7 => exact h.commandedRestart
  case h_8 => exact h

theorem carry (h : LineInv s) {e : Entry} (quorum : ∀ n, e.subject = .line n → (s.line n).cfg.policy = .quorum)
    (due : s.held = false ∨ e.activates = false) : LineInv (carry e s) := by
  have handed := h.handOff quorum due
  unfold Machine.carry
  split
  · exact handed
  · exact handed.of_table (endEntry_kept _ e _)

theorem putEntry (h : LineInv s) {e : Entry} (known : s.knows e) : LineInv (s.putEntry e) :=
  h.of_table (putEntry_kept known)

theorem countVotes (h : LineInv s) {e : Entry} (known : s.knows e)
    (quorum : ∀ n, e.subject = .line n → (s.line n).cfg.policy = .quorum) : LineInv (countVotes e s).1 := by
  unfold Machine.countVotes
  split
  · exact h
  · split
    · exact h
    · split
      · exact h.putEntry known
      next kept =>
        refine h.carry quorum ?_
        rwa [Bool.not_eq_true, Bool.and_eq_false_iff] at kept

/-- An entry that opens takes a free id and a free subject (R21, R23, R29). -/
theorem openAndCount (h : LineInv s) (m : MasterId) {sub : Subject} (act : Action) (dur rev : Option W16)
    (room : s.table.length < 12)
    (line : ∀ n, sub = .line n → (s.line n).cfg.policy = .quorum ∧ ∀ x ∈ s.table, x.subject ≠ .line n) :
    LineInv (openAndCount m sub act dur rev s).1 := by
  have opened := h.openEntry (e := s.newEntry m sub act dur rev) room
    (State.freeId_free (Nat.le_of_lt_succ room)) line
  exact opened.countVotes (opened.knows (List.mem_append_right _ (List.mem_singleton_self _)))
    fun n on => (line n on).1

end LineInv

theorem mem_of_entryOn {s : State} {sub : Subject} {e : Entry} (found : s.entryOn sub = some e) :
    e ∈ s.table ∧ e.subject = sub :=
  ⟨List.mem_of_find?_eq_some found, by simpa using List.find?_some found⟩

theorem mem_of_entryById {s : State} {id : Byte} {e : Entry} (found : s.entryById id = some e) :
    e ∈ s.table ∧ e.id = id :=
  ⟨List.mem_of_find?_eq_some found, by simpa using List.find?_some found⟩

theorem subject_ne_of_vacant {s : State} {sub : Subject} (vacant : s.entryOn sub = none) :
    ∀ x ∈ s.table, x.subject ≠ sub := by
  simpa using List.find?_eq_none.mp vacant

/-- An entry that leaves the table makes room in it. -/
theorem length_endEntry_lt {s : State} {e : Entry} (member : e ∈ s.table) (out : EntryOutcome) :
    (endEntry e out s).table.length < s.table.length := by
  rw [endEntry_table]
  exact List.length_filter_lt_length_iff_exists.mpr ⟨e, member, by simp⟩

namespace LineInv

variable {s t : State}

theorem withVote_known (h : LineInv s) {e : Entry} (member : e ∈ s.table) (m : MasterId) : s.knows (withVote m e) :=
  fun x found same => h.knows member x found same

/-- What a request can do keeps the line laws. -/
theorem effect (h : LineInv s) {m : MasterId} (effect : RequestEffect m s t) : LineInv t := by
  cases effect with
  | kept => exact h
  | asserted n _ shared unheld =>
    exact h.lineClaim n _ ((h.law n).addAssertion shared m) rfl fun asserted => h.held asserted n
  | dropped n shared =>
    exact h.lineClaim n _ ((h.law n).dropAssertion shared m) rfl fun asserted => h.held asserted n
  | activated n leased owner =>
    exact h.command n _ (.inl leased) fun _ unowned => nomatch unowned.symm.trans owner
  | released n leased _ => exact h.command n _ (.inl leased) fun _ _ => rfl
  | leased n d _ leased _ =>
    exact h.updLine n ((h.law n).takeLease leased m s.count d) rfl fun asserted => h.held asserted n
  | relinquished n _ => exact h.endLease n _ _
  | pulsed n d leased owner unheld =>
    exact h.startPulse n _ d unheld (.inl leased) fun _ unowned => nomatch unowned.symm.trans owner
  | voted sub act arg e _ found =>
    obtain ⟨member, _⟩ := mem_of_entryOn found
    have known := h.withVote_known member m
    exact (h.putEntry known).countVotes ((putEntry_kept known).knows known) (h.quorum e member)
  | opened sub act arg _ _ valid vacant room =>
    refine h.openAndCount m act _ _ room fun n on => ?_
    subst on
    exact ⟨valid.1, subject_ne_of_vacant vacant⟩
  | superseded sub act arg e _ _ found =>
    obtain ⟨member, _⟩ := mem_of_entryOn found
    have ended := endEntry_kept s e .superseded
    refine (h.of_table ended).openAndCount m act _ _ ((length_endEntry_lt member _).trans_le h.size) fun n on => ?_
    refine ⟨by rw [ended.line]; exact h.quorum e member n on, fun x left same => ?_⟩
    rw [endEntry_table, List.mem_filter] at left
    rw [eq_of_alone h.alone left.1 member same on] at left
    simp at left
  | withdrawn id e found _ => exact h.of_table (takeVote_kept (h.knows (mem_of_entryById found).1) m)
  | sessionOpened => exact h.setSession _
  | touched => rw [touchSession_frame]; exact h.congr rfl rfl rfl rfl rfl
  | written => exact h.setSession _
  | committed sh rev d _ _ room => exact (h.setSession _).openAndCount m _ _ _ room fun n on => nomatch on
  | closed => exact h.of_table (endSession_kept s)
  | flagsRead => exact h.setStat m _
  | subscribed mask => exact h.setStat m _
  | resynced => exact h.congr rfl rfl rfl rfl rfl

/-! ### HOLD (R13, R15) -/

theorem of_unheld (h : LineInv s) (released : t.hold.qualified = .released) (rstn : t.rstn = s.rstn)
    (lines : t.lines = s.lines) (config : t.config = s.config) (table : t.table = s.table) : LineInv t := by
  have line (n : LineId) : t.line n = s.line n := congrArg (fun v => Vector.get v n) lines
  exact ⟨by simpa only [line] using h.law, by simpa only [line, rstn, config] using h.copy,
    fun asserted => (nomatch released.symm.trans asserted), by simpa only [line, table] using h.quorum,
    table ▸ h.alone, table ▸ h.size, table ▸ h.ids⟩

/-- No pulse is left when HOLD is asserted (R13, R71). -/
theorem holdAssertedEvent (h : LineInv s) : LineInv (holdAssertedEvent s) := by
  have frame := holdAssertedEvent_frame s
  have line (n : LineId) : ∃ l, LineLaw l ∧ l.cfg = (s.line n).cfg ∧ l.pulse = none ∧
      (Machine.holdAssertedEvent s).line n = l := by
    have ended : (unpulsed (s.line n)).pulse = none := by
      unfold unpulsed
      split
      · rfl
      next idle => simpa using idle
    rw [holdAssertedEvent_line]
    split
    · exact ⟨_, (h.law n).unpulsed.settleOnChange s.count, by unfold Line.settleOnChange; split <;> simp,
        by unfold Line.settleOnChange; split <;> exact ended, rfl⟩
    · exact ⟨_, (h.law n).unpulsed, unpulsed_cfg _, ended, rfl⟩
  have cfg (n : LineId) : ((Machine.holdAssertedEvent s).line n).cfg = (s.line n).cfg := by
    obtain ⟨l, _, same, _, eq⟩ := line n
    rw [eq, same]
  have table : (Machine.holdAssertedEvent s).table = s.table := (congrArg State.table frame :)
  refine ⟨fun n => ?_, fun running n => ?_, fun _ n => ?_, ?_, ?_, ?_, ?_⟩
  · obtain ⟨l, law, _, _, eq⟩ := line n
    exact eq ▸ law
  · rw [cfg, show (Machine.holdAssertedEvent s).config = s.config from (congrArg State.config frame :)]
    exact h.copy ((congrArg State.rstn frame :).symm.trans running) n
  · obtain ⟨l, _, _, ended, eq⟩ := line n
    exact eq ▸ ended
  · simpa only [table, cfg] using h.quorum
  all_goals rw [table]
  · exact h.alone
  · exact h.size
  · exact h.ids

theorem reportChanges (h : LineInv s) (before : LineId → Level) (cause : Cause) (ns : List LineId) :
    LineInv (reportChanges before cause ns s) := by
  unfold Machine.reportChanges
  induction ns generalizing s with
  | nil => exact h
  | cons n ns ih => exact ih (h.reportChange n _ cause)

theorem carryReadyFold (h : LineInv s) (unheld : s.held = false) (ids : List Byte) :
    LineInv (ids.foldl carryReady s) := by
  induction ids generalizing s with
  | nil => exact h
  | cons id ids ih =>
    have first : LineInv (carryReady s id) ∧ (carryReady s id).held = false := by
      unfold carryReady
      split
      next e found =>
        split
        · refine ⟨h.carry (h.quorum e (mem_of_entryById found).1) (.inl unheld), ?_⟩
          rwa [State.held, (carry_decided s e).hold]
        · exact ⟨h, unheld⟩
      · exact ⟨h, unheld⟩
    exact ih first.1 first.2

theorem holdReleasedEvent (h : LineInv s) : LineInv (holdReleasedEvent s) := by
  have released : LineInv (setQualified .released s) := h.of_unheld rfl rfl rfl rfl rfl
  refine LineInv.raise (carryReadyFold (released.reportChanges s.driven .hold allLines) ?_ _) _
  rw [State.held, reportChanges_frame]
  rfl

/-! ### Feedback and resets -/

theorem enterMismatch (h : LineInv s) (n : LineId) (check : (s.line n).feedback ≠ .off) :
    LineInv (enterMismatch n s) := by
  have changed : LineInv (s.updLine n fun l => { l with feedback := .mismatch, settle := none }) :=
    h.updLine n ((h.law n).compared check nofun nofun) rfl fun asserted => h.held asserted n
  exact changed.congr rfl rfl rfl rfl rfl

theorem settleReached (h : LineInv s) (n : LineId) (running : (s.line n).settle.isSome = true) :
    LineInv (settleReached n s) := by
  have check : (s.line n).feedback ≠ .off := by rw [(h.law n).settle.mpr running]; nofun
  unfold Machine.settleReached
  split
  · exact h.updLine n ((h.law n).compared check nofun nofun) rfl fun asserted => h.held asserted n
  · exact h.enterMismatch n check

theorem inputChanged (h : LineInv s) (n : LineId) (level : Level) : LineInv (inputChanged n level s) := by
  have moved : LineInv (s.setInput n level) := h.congr rfl rfl rfl rfl rfl
  unfold Machine.inputChanged
  dsimp only
  split
  · exact moved
  · exact moved
  next matching =>
    exact moved.enterMismatch n (by rw [show (s.setInput n level).line n = s.line n from rfl, matching]; nofun)
  next mismatch =>
    refine LineInv.raise (moved.updLine n ?_ rfl fun asserted => h.held asserted n) _
    have law := h.law n
    have on : (s.line n).feedback ≠ .off := by rw [mismatch]; nofun
    exact { law with
      off := iff_of_false nofun fun off => on (law.off.mpr off)
      settle := iff_of_false nofun fun running => nomatch mismatch.symm.trans (law.settle.mpr running) }

theorem assertReset (h : LineInv s) : LineInv (assertReset s) := by
  have line (n : LineId) : (Machine.assertReset s).line n = (s.line n).onReset := get_eachRecord _ _ _
  exact ⟨fun n => line n ▸ (h.law n).onReset, nofun, fun _ n => by rw [line]; rfl, nofun, .nil, Nat.zero_le 12, .nil⟩

theorem afterPinReset (cfgsel : Level) (adrs : Byte) (holdPin : Level) (fbkPins : W16) :
    LineInv (State.afterPinReset cfgsel adrs holdPin fbkPins) := by
  have line (n : LineId) : (State.afterPinReset cfgsel adrs holdPin fbkPins).line n =
      resetLine (defaultLineConfig cfgsel) := get_replicate _ _
  refine ⟨fun n => ?_, fun _ n => ?_, fun _ n => by rw [line]; rfl, nofun, .nil, Nat.zero_le 12, .nil⟩
  · rw [line]
    exact .of_released rfl rfl rfl rfl rfl (iff_of_true rfl rfl) (iff_of_false nofun nofun)
  · rw [line]
    exact (get_replicate _ _).symm

end LineInv

/-- Every event keeps the line laws. -/
theorem lineInv_kept : KeptByEvents LineInv where
  ports _ _ h := h.congr rfl rfl rfl rfl rfl
  flag m f _ h := h.setFlag m f
  renewed p src s h := by
    rw [(renew_renewed s p src).frame]
    exact h.congr rfl rfl rfl rfl rfl
  effect _ _ _ _ effect h := h.effect effect
  began p _ _ _ _ h := h.setStat p _
  resetAsserted _ h := h.assertReset
  resetReleased cfgsel adrs holdPin fbkPins _ _ :=
    (LineInv.afterPinReset cfgsel adrs holdPin fbkPins).congr rfl rfl rfl rfl rfl
  counted _ _ h := h.congr rfl rfl rfl rfl rfl
  holdInput s _ _ h := ⟨h.law, h.copy, h.held, h.quorum, h.alone, h.size, h.ids⟩
  holdAsserted _ _ _ h := h.holdAssertedEvent
  holdReleased _ _ _ h := h.holdReleasedEvent
  feedbackPin _ _ h := h.congr rfl rfl rfl rfl rfl
  feedbackInput n level _ h := h.inputChanged n level
  pulseEnded n s running h := h.command n _ ((h.law n).pulse running).2 fun _ _ => rfl
  leaseEnded n _ _ h := h.endLease n _ _
  settled n _ running h := h.settleReached n running
  expired m _ _ h := h.expireMaster m
  entryExpired _ e s _ h := h.of_table (endEntry_kept s e _)
  idleEnded _ _ _ _ _ _ h := h.setSession _

/-- Settles O58: every event keeps the line laws, and no command reads the queue of commands. -/
theorem stepKeepsTheLineLaws : Obligations.StepKeepsTheLineLaws :=
  fun _ _ => lineInv_kept.step fun _ _ h => h.congr rfl rfl rfl rfl rfl

end Sys2Proof.Machine
end

section
/-! PROOFS. What masters are told (R155, R161, R163): a list of notices in their order and a set of flags. Flags and
notices may be taken in either order, so that the effects of several claims on the status records add up. -/

namespace Sys2Proof.Machine

open Sys2Proof

/-! ### Flags added to a record -/

/-- Flags added to a status record (R155). -/
def StatusRecord.mark (r : StatusRecord) (set : FlagSet) : StatusRecord := { r with flags := r.flags ||| set }

theorem StatusRecord.setFlag_eq_mark (r : StatusRecord) (f : Flag) : r.setFlag f = r.mark (onlyBit (flagBit f)) := rfl

@[simp] theorem StatusRecord.mark_zero (r : StatusRecord) : r.mark 0#11 = r := by
  simp [StatusRecord.mark]

theorem StatusRecord.mark_mark (r : StatusRecord) (a b : FlagSet) : (r.mark a).mark b = r.mark (a ||| b) := by
  simp [StatusRecord.mark, BitVec.or_assoc]

theorem StatusRecord.mark_comm (r : StatusRecord) (a b : FlagSet) : (r.mark a).mark b = (r.mark b).mark a := by
  rw [StatusRecord.mark_mark, StatusRecord.mark_mark, BitVec.or_comm]

/-- A flag that is set under a condition. -/
theorem StatusRecord.mark_ite (r : StatusRecord) (c : Prop) [Decidable c] (f : Flag) :
    r.mark (if c then onlyBit (flagBit f) else 0#11) = if c then r.setFlag f else r := by
  by_cases holds : c
  · rw [if_pos holds, if_pos holds]; rfl
  · rw [if_neg holds, if_neg holds, StatusRecord.mark_zero]

theorem StatusRecord.enqueue_mark (r : StatusRecord) (set : FlagSet) (nt : Notice) :
    (r.mark set).enqueue nt = (r.enqueue nt).mark set := by
  have queue : (r.mark set).queue = r.queue := rfl
  unfold StatusRecord.enqueue
  rw [queue]
  by_cases known : r.queue.any (fun x => x.key = nt.key) = true
  · rw [if_pos known, if_pos known]; rfl
  · rw [if_neg known, if_neg known]
    by_cases room : r.queue.length < Config.queueDepth
    · rw [if_pos room, if_pos room]; rfl
    · rw [if_neg room, if_neg room, StatusRecord.setFlag_eq_mark, StatusRecord.mark_comm]; rfl

theorem noticed_mark_comm (s : State) (m : MasterId) (nt : Notice) (r : StatusRecord) (set : FlagSet) :
    noticed s m nt (r.mark set) = (noticed s m nt r).mark set := by
  unfold noticed
  by_cases routed : (s.master m).presence = .present ∧ subscribed r.mask nt.cls = true
  · rw [if_pos routed, ← StatusRecord.enqueue_mark]; exact if_pos routed
  · rw [if_neg routed]; exact if_neg routed

theorem told_mark_comm (s : State) (m : MasterId) (notices : List Notice) (r : StatusRecord) (set : FlagSet) :
    told s m notices (r.mark set) = (told s m notices r).mark set := by
  induction notices generalizing r with
  | nil => rfl
  | cons nt rest ih => rw [told_cons, noticed_mark_comm, ih, told_cons]

theorem told_of_presence {s t : State} (same : ∀ m, (t.master m).presence = (s.master m).presence) (m : MasterId)
    (notices : List Notice) (r : StatusRecord) : told t m notices r = told s m notices r := by
  simp only [told, noticed_congr same]

/-! ### Claims and what they tell -/

/-- From s to t each master is told the notices, if they are routed to it, and gets its marks; nobody's presence
changes. -/
structure Told (notices : List Notice) (marks : MasterId → FlagSet) (s t : State) : Prop where
  presence : ∀ m, (t.master m).presence = (s.master m).presence
  stat : ∀ m, t.stat m = (told s m notices (s.stat m)).mark (marks m)

/-- No flag. -/
abbrev unmarked : MasterId → FlagSet := fun _ => 0#11

/-- LEASE_LOST for master m, under a condition (R66 step 5). -/
abbrev leaseLost (m : MasterId) (c : Prop) [Decidable c] : MasterId → FlagSet :=
  fun k => if k = m ∧ c then onlyBit (flagBit .leaseLost) else 0#11

namespace Told

variable {a b : List Notice} {f g : MasterId → FlagSet} {s t u : State}

theorem of_same (masters : t.masters = s.masters) (status : t.status = s.status) : Told [] unmarked s t where
  presence m := by rw [State.master, masters]; rfl
  stat m := by rw [StatusRecord.mark_zero, told_nil, State.stat, status]; rfl

theorem refl (s : State) : Told [] unmarked s s := of_same rfl rfl

theorem trans (first : Told a f s t) (second : Told b g t u) : Told (a ++ b) (fun m => f m ||| g m) s u where
  presence m := (second.presence m).trans (first.presence m)
  stat m := by
    rw [second.stat, first.stat, told_mark_comm, told_of_presence first.presence, StatusRecord.mark_mark, told_append]

/-- Notices and marks may be given in other words. -/
theorem congr (h : Told a f s t) (notices : a = b) (marks : ∀ m, f m = g m) : Told b g s t := by
  obtain rfl := notices
  obtain rfl := funext marks
  exact h

/-- Claims that mark nobody. -/
theorem trans_unmarked (first : Told a f s t) (second : Told b unmarked t u) : Told (a ++ b) f s u :=
  (first.trans second).congr rfl fun _ => BitVec.or_zero

theorem unmarked_trans (first : Told a unmarked s t) (second : Told b f t u) : Told (a ++ b) f s u :=
  (first.trans second).congr rfl fun _ => BitVec.zero_or

/-- Claims that tell nothing. -/
theorem trans_same (first : Told a f s t) (masters : u.masters = t.masters) (status : u.status = t.status) :
    Told a f s u := by
  simpa using first.trans_unmarked (of_same masters status)

theorem same_trans (first : Told a f t u) (masters : t.masters = s.masters) (status : t.status = s.status) :
    Told a f s u := by
  simpa using (of_same masters status).unmarked_trans first

/-- A claim that leaves the masters and gives each record its notices. -/
theorem of_stat (masters : t.masters = s.masters) (stat : ∀ m, t.stat m = told s m a (s.stat m)) :
    Told a unmarked s t where
  presence m := by rw [State.master, masters]; rfl
  stat m := by rw [stat, StatusRecord.mark_zero]

end Told

theorem raise_told (nt : Notice) (s : State) : Told [nt] unmarked s (raise nt s) :=
  .of_stat rfl fun m => raise_noticed s nt m

theorem setFlag_told (m : MasterId) (f : Flag) (s : State) :
    Told [] (fun k => if k = m then onlyBit (flagBit f) else 0#11) s (setFlag m f s) where
  presence _ := rfl
  stat k := by
    rw [setFlag_stat, told_nil, StatusRecord.mark_ite]
    by_cases same : k = m
    · subst same; rfl
    · simp [same]

section

variable {s t : State}

theorem ClaimTaken.told {n : LineId} {cause : Cause} {f : Line → Line} (h : ClaimTaken n cause f s t) :
    Told (if drivenLevel s.hold.qualified (f (s.line n)) = s.driven n then []
      else [.lineChanged n (drivenLevel s.hold.qualified (f (s.line n))) (f (s.line n)).commanded cause])
      unmarked s t := by
  refine .of_stat (by rw [h.frame]) fun m => ?_
  rw [h.status]
  split <;> rfl

theorem LeaseEnds.told {n : LineId} {m : MasterId} {reason : LeaseReason} {cause : Cause}
    (h : LeaseEnds n m reason cause s t) :
    Told (.leaseEnded n m reason :: if drivenLevel s.hold.qualified (leaseless (s.line n)) = s.driven n then []
      else [.lineChanged n (s.line n).cfg.safe .released cause]) (leaseLost m (reason ≠ .relinquished)) s t where
  presence k := by rw [h.frame]; rfl
  stat k := by
    rw [h.status]
    simp only [← StatusRecord.mark_ite]
    split
    · rfl
    · rw [noticed_mark_comm]; rfl

theorem EntryEnds.told {e : Entry} {out : EntryOutcome} (h : EntryEnds e out s t) :
    Told [.proposalEnded e.id e.subject e.action out e.voters] unmarked s t :=
  .of_stat (by rw [h.frame]) h.status

end

end Sys2Proof.Machine
end

section
/-! PROOFS. The removal of a master (R10, R46, R48, R96): its lines, its session and its votes, each said whole with
the notices it raises. -/

namespace Sys2Proof.Machine

open Sys2Proof

/-! ### Lines (R10) -/

/-- Line n after the removal of master m. -/
def removedLine (s : State) (m : MasterId) (n : LineId) : Line :=
  if moves s m n then settling s.count (withoutMaster m (s.line n)) else withoutMaster m (s.line n)

/-- The notices of line n when master m is removed from it (R10, R66). -/
def lineRemovalNotices (s : State) (m : MasterId) (r : RemovalReason) (n : LineId) : List Notice :=
  (if (s.line n).owner = some m then [.leaseEnded n m r.leaseReason] else []) ++
  (if moves s m n then [.lineChanged n (drivenLevel s.hold.qualified (withoutMaster m (s.line n)))
    (withoutMaster m (s.line n)).commanded r.cause] else [])

/-- A line with master m in its assertion set is SHARED, and nobody owns it (R4, R57). -/
theorem LineLaw.unowned_of_asserted {l : Line} (law : LineLaw l) {m : MasterId}
    (member : hasBit l.asserted m.val = true) :
    l.cfg.policy = .shared ∧ l.owner = none := by
  have shared : l.cfg.policy = .shared := by
    by_contra other
    rw [law.unshared other] at member
    simp [hasBit] at member
  exact ⟨shared, law.leased (by rw [shared]; nofun)⟩

/-- The removal of a master from a line, by what it holds there: its assertion, its lease or nothing (R10). -/
theorem removeFromLine_eq {s : State} {n : LineId} (law : LineLaw (s.line n)) (m : MasterId) (r : RemovalReason) :
    removeFromLine m r s n =
      if hasBit (s.line n).asserted m.val = true then lineClaim n r.cause (Line.dropAssertion m) s
      else if (s.line n).owner = some m then endLease n r.leaseReason r.cause s
      else s := by
  unfold removeFromLine
  by_cases member : hasBit (s.line n).asserted m.val = true
  · simp only [(law.unowned_of_asserted member).1, member, if_true]
  · cases policy : (s.line n).cfg.policy with
    | leased => simp only [member]; rfl
    | shared | quorum | fixed => simp [member, law.leased (by rw [policy]; nofun)]

theorem RemovalReason.leaseReason_ne (r : RemovalReason) : r.leaseReason ≠ .relinquished := by
  cases r <;> nofun

section

variable {s : State} {n : LineId} {m : MasterId} {l : Line} (without : withoutMaster m (s.line n) = l)

include without

theorem removedLine_of : removedLine s m n =
    if drivenLevel s.hold.qualified l = s.driven n then l else settling s.count l := by
  subst without
  simp only [removedLine, moves, ite_not, ne_eq]

theorem lineRemovalNotices_of (r : RemovalReason) : lineRemovalNotices s m r n =
    (if (s.line n).owner = some m then [.leaseEnded n m r.leaseReason] else []) ++
      if drivenLevel s.hold.qualified l = s.driven n then []
      else [.lineChanged n (drivenLevel s.hold.qualified l) l.commanded r.cause] := by
  subst without
  simp only [lineRemovalNotices, moves, ite_not, ne_eq]

end

/-- What the removal from line n does to any line, and whom it tells what. -/
theorem removeFromLine_removed {s : State} {n : LineId} (law : LineLaw (s.line n)) (m : MasterId) (r : RemovalReason) :
    (∀ k, (removeFromLine m r s n).line k = if k = n then removedLine s m n else s.line k) ∧
      Told (lineRemovalNotices s m r n) (leaseLost m ((s.line n).owner = some m)) s (removeFromLine m r s n) := by
  rw [removeFromLine_eq law]
  by_cases member : hasBit (s.line n).asserted m.val = true
  · have unowned := (law.unowned_of_asserted member).2
    have without : withoutMaster m (s.line n) = Line.dropAssertion m (s.line n) := if_pos member
    have taken := lineClaim_taken s n r.cause (Line.dropAssertion m)
    rw [if_pos member]
    refine ⟨fun k => ?_, taken.told.congr ?_ fun k => ?_⟩
    · by_cases same : k = n
      · rw [if_pos same, same, taken.line, removedLine_of without]; rfl
      · rw [if_neg same, taken.others k same]
    · rw [lineRemovalNotices_of without, unowned]; rfl
    · simp [unowned]
  · rw [if_neg member]
    by_cases owner : (s.line n).owner = some m
    · have without : withoutMaster m (s.line n) = leaseless (s.line n) := by
        rw [withoutMaster, if_neg member, if_pos owner]
      have ended := endLease_ends s n m r.leaseReason r.cause owner
      rw [if_pos owner]
      refine ⟨fun k => ?_, ended.told.congr ?_ fun k => ?_⟩
      · by_cases same : k = n
        · rw [if_pos same, same, ended.line, removedLine_of without]; rfl
        · rw [if_neg same, ended.others k same]
      · rw [lineRemovalNotices_of without, if_pos owner, drivenLevel_released _ (leaseless (s.line n)) rfl]; rfl
      · simp [owner, r.leaseReason_ne]
    · have without : withoutMaster m (s.line n) = s.line n := by
        rw [withoutMaster, if_neg member, if_neg owner]
      rw [if_neg owner]
      refine ⟨fun k => ?_, (Told.refl s).congr ?_ fun k => ?_⟩
      · by_cases same : k = n
        · rw [if_pos same, same, removedLine_of without, State.driven_eq, if_pos rfl]
        · rw [if_neg same]
      · rw [lineRemovalNotices_of without, if_neg owner, State.driven_eq, if_pos rfl]; rfl
      · simp [owner]

/-- A lease end writes the lines and the status records alone (R66). -/
theorem endLease_frame (n : LineId) (reason : LeaseReason) (cause : Cause) (s : State) :
    endLease n reason cause s =
      { s with lines := (endLease n reason cause s).lines, status := (endLease n reason cause s).status } := by
  cases owner : (s.line n).owner with
  | none => unfold endLease; rw [owner]
  | some m => exact (endLease_ends s n m reason cause owner).frame

theorem removeFromLine_frame (m : MasterId) (r : RemovalReason) (s : State) (n : LineId) :
    removeFromLine m r s n = { s with
      lines := (removeFromLine m r s n).lines, status := (removeFromLine m r s n).status } := by
  unfold removeFromLine
  split
  · split
    · exact (lineClaim_taken s n _ _).frame
    · rfl
  · split
    · exact endLease_frame n _ _ s
    · rfl
  · rfl
  · rfl

theorem foldl_removeFromLine_frame (m : MasterId) (r : RemovalReason) (ns : List LineId) (s : State) :
    ns.foldl (removeFromLine m r) s = { s with
      lines := (ns.foldl (removeFromLine m r) s).lines, status := (ns.foldl (removeFromLine m r) s).status } := by
  induction ns generalizing s with
  | nil => rfl
  | cons n ns ih => rw [List.foldl_cons, ih, removeFromLine_frame]

/-- The removal from a line reads the qualified HOLD level, the count and the line's own record. -/
theorem removal_congr {s t : State} {n : LineId} (hold : t.hold = s.hold) (count : t.count = s.count)
    (line : t.line n = s.line n) (m : MasterId) (r : RemovalReason) :
    removedLine t m n = removedLine s m n ∧ lineRemovalNotices t m r n = lineRemovalNotices s m r n := by
  rw [removedLine_of (s := t) rfl, removedLine_of (s := s) rfl, lineRemovalNotices_of (s := t) rfl,
    lineRemovalNotices_of (s := s) rfl, State.driven_eq, State.driven_eq, hold, count, line]
  exact ⟨rfl, rfl⟩

/-- The removal from lines one after another: each line is removed from as it stood before. -/
theorem foldl_removeFromLine {ns : List LineId} (distinct : ns.Nodup) (m : MasterId) (r : RemovalReason) {s : State}
    (h : LineInv s) :
    (∀ k, (ns.foldl (removeFromLine m r) s).line k = if k ∈ ns then removedLine s m k else s.line k) ∧
      Told ((ns.map (lineRemovalNotices s m r)).flatten) (leaseLost m (∃ n ∈ ns, (s.line n).owner = some m)) s
        (ns.foldl (removeFromLine m r) s) := by
  induction ns generalizing s with
  | nil => exact ⟨fun k => by simp, (Told.refl s).congr rfl fun k => by simp⟩
  | cons n ns ih =>
    obtain ⟨fresh, distinct⟩ := List.nodup_cons.mp distinct
    obtain ⟨line, first⟩ := removeFromLine_removed (h.law n) m r
    have frame := removeFromLine_frame m r s n
    have untouched {k : LineId} (later : k ∈ ns) : (removeFromLine m r s n).line k = s.line k := by
      rw [line, if_neg]
      rintro rfl
      exact fresh later
    have same {k : LineId} (later : k ∈ ns) := removal_congr (n := k)
      (t := removeFromLine m r s n) (by rw [frame]) (by rw [frame]) (untouched later) m r
    obtain ⟨lines, told⟩ := ih distinct (h.removeFromLine m r n)
    refine ⟨fun k => ?_, ?_⟩
    · rw [List.foldl_cons, lines]
      by_cases later : k ∈ ns
      · rw [if_pos later, if_pos (List.mem_cons_of_mem n later), (same later).1]
      · rw [if_neg later, line]
        by_cases here : k = n
        · rw [if_pos here, here, if_pos List.mem_cons_self]
        · rw [if_neg here, if_neg (by simp [here, later])]
    · refine (first.trans told).congr ?_ fun k => ?_
      · rw [List.map_cons, List.flatten_cons, List.map_congr_left fun k later => (same later).2]
      · have owners : (∃ k ∈ ns, ((removeFromLine m r s n).line k).owner = some m) ↔
            ∃ k ∈ ns, (s.line k).owner = some m :=
          exists_congr fun k => and_congr_right fun later => by rw [untouched later]
        simp only [leaseLost, owners, List.exists_mem_cons_iff]
        by_cases this : k = m <;> by_cases here : (s.line n).owner = some m <;>
          by_cases later : ∃ k ∈ ns, (s.line k).owner = some m <;> simp [this, here, later]

/-! ### The session (R48, R124) -/

/-- A list without repetitions holds one member of a kind when that member alone is of the kind. -/
theorem filter_eq_singleton {α : Type} [DecidableEq α] {l : List α} (distinct : l.Nodup) {a : α} (member : a ∈ l)
    {p : α → Bool} (alone : ∀ x ∈ l, p x = true ↔ x = a) : l.filter p = [a] := by
  have same : l.filter p = l.filter fun x => decide (x = a) :=
    List.filter_congr fun x found => by
      rw [Bool.eq_iff_iff, decide_eq_true_iff]
      exact alone x found
  rw [same, List.filter_eq, List.count_eq_one_of_mem distinct member]
  rfl

/-- The session returned from VOTING to EDITING (R118). -/
def returned (now : W32) : Session → Session
  | .voting o sh rev => .editing o sh rev ⟨now, 10000#16⟩
  | .editing o sh rev d => .editing o sh rev d
  | .none => .none

@[simp] theorem returned_returned (now : W32) (x : Session) : returned now (returned now x) = returned now x := by
  cases x <;> rfl

theorem returnToEditing_eq (s : State) : returnToEditing s = s.setSession (returned s.count s.session) := by
  unfold returnToEditing
  cases session : s.session with
  | voting o sh rev => rfl
  | editing o sh rev d => exact congrArg s.setSession session
  | none => exact congrArg s.setSession session

theorem endEntry_session (s : State) (e : Entry) (out : EntryOutcome) :
    (endEntry e out s).session =
      if e.subject = .config ∧ (out = .expired ∨ out = .withdrawn) then returned s.count s.session
      else s.session := by
  unfold endEntry
  dsimp only
  split
  · rw [returnToEditing_eq]; rfl
  · rfl

theorem endEntry_told (s : State) (e : Entry) (out : EntryOutcome) :
    Told [.proposalEnded e.id e.subject e.action out e.voters] unmarked s (endEntry e out s) := by
  have left := (dropEntry_ends s e out).told
  unfold endEntry
  dsimp only
  split
  · rw [returnToEditing_eq]
    exact left.trans_same rfl rfl
  · exact left

section

variable {l : List Entry} (subjects : l.Pairwise fun a b => a.subject ≠ b.subject)
  (ids : l.Pairwise fun a b => a.id ≠ b.id) {e : Entry} (member : e ∈ l)

include subjects ids member

/-- In a lawful table the entries without the id of e are those with another subject (R21, R23). -/
theorem filter_id_eq_filter_subject :
    l.filter (fun x => x.id ≠ e.id) = l.filter fun x => x.subject ≠ e.subject :=
  List.filter_congr fun x found => by
    have ends : x.id = e.id ↔ x.subject = e.subject :=
      ⟨fun same => by rw [eq_of_pairwise_ne ids found member same],
        fun same => by rw [eq_of_pairwise_ne subjects found member same]⟩
    simp only [ne_eq, ends]

/-- A subject's only entry (R21). -/
theorem filter_subject_eq_singleton : l.filter (fun x => x.subject = e.subject) = [e] := by
  have distinct : l.Nodup := ids.imp fun differ same => differ (congrArg Entry.id same)
  refine filter_eq_singleton distinct member fun x found => ?_
  rw [decide_eq_true_iff]
  exact ⟨fun same => eq_of_pairwise_ne subjects found member same, fun same => same ▸ rfl⟩

end

/-- What the removal of a master asks of the table: entries told apart by subject and id, each with a voter, and an
APPLY entry in VOTING alone (R20, R21, R23, R109). -/
structure TableLaw (s : State) : Prop where
  subjects : s.table.Pairwise fun a b => a.subject ≠ b.subject
  ids : s.table.Pairwise fun a b => a.id ≠ b.id
  voters : ∀ e ∈ s.table, e.voters ≠ 0#4
  apply : ∀ e ∈ s.table, e.subject = .config → ∃ o sh rev, s.session = .voting o sh rev

/-- The entry on a subject, if there is one, leaves the table CANCELLED (R47, R48). -/
theorem cancelOn_cancelled {s : State} (subjects : s.table.Pairwise fun a b => a.subject ≠ b.subject)
    (ids : s.table.Pairwise fun a b => a.id ≠ b.id) (sub : Subject) :
    cancelOn sub s = { s with
      table := s.table.filter (fun e => e.subject ≠ sub), status := (cancelOn sub s).status } ∧
    Told ((s.table.filter fun e => e.subject = sub).map fun e =>
      .proposalEnded e.id e.subject e.action .cancelled e.voters) unmarked s (cancelOn sub s) := by
  unfold cancelOn
  cases found : s.entryOn sub with
  | none =>
    have vacant := subject_ne_of_vacant found
    have all : s.table.filter (fun e => e.subject ≠ sub) = s.table :=
      List.filter_eq_self.mpr fun e member => decide_eq_true (vacant e member)
    have nobody : s.table.filter (fun e => e.subject = sub) = [] :=
      List.filter_eq_nil_iff.mpr fun e member => by simpa using vacant e member
    rw [all, nobody]
    exact ⟨rfl, .refl s⟩
  | some e =>
    obtain ⟨member, rfl⟩ := mem_of_entryOn found
    have ended := endEntry_ends_of_outcome s e .cancelled nofun nofun
    rw [filter_subject_eq_singleton subjects ids member]
    refine ⟨?_, ended.told⟩
    rw [← filter_id_eq_filter_subject subjects ids member]
    exact ended.frame

/-- The session of a master that loses it, with its APPLY entry (R48, R124, R126). -/
theorem endSessionOf_removed {s : State} (law : TableLaw s) (m : MasterId) :
    endSessionOf m s = { s with
      table := outsideSession s m, session := if s.session.owner? = some m then .none else s.session,
      status := (endSessionOf m s).status } ∧
    Told ((s.table.filter fun e => endsWithSession s m e).map fun e =>
      .proposalEnded e.id e.subject e.action .cancelled e.voters) unmarked s (endSessionOf m s) := by
  unfold endSessionOf outsideSession endsWithSession
  by_cases owner : s.session.owner? = some m
  · simp only [owner, and_true, if_true]
    unfold endSession
    split
    next =>
      obtain ⟨frame, told⟩ := cancelOn_cancelled (s := s.setSession .none) law.subjects law.ids .config
      exact ⟨frame, told.same_trans rfl rfl⟩
    next other =>
      have vacant (e : Entry) (member : e ∈ s.table) : e.subject ≠ .config := by
        intro config
        obtain ⟨o, sh, rev, voting⟩ := law.apply e member config
        exact other o sh rev voting
      have all : s.table.filter (fun e => ¬e.subject = .config) = s.table :=
        List.filter_eq_self.mpr fun e member => decide_eq_true (vacant e member)
      have nobody : s.table.filter (fun e => e.subject = .config) = [] :=
        List.filter_eq_nil_iff.mpr fun e member => by simpa using vacant e member
      rw [all, nobody]
      exact ⟨rfl, .of_same rfl rfl⟩
  · simp only [owner, and_false, not_false_eq_true, decide_true, decide_false, if_false, List.filter_true,
      List.filter_false]
    exact ⟨trivial, .refl s⟩

/-! ### The votes (R36, R46) -/

theorem voters_eq_onlyBit_iff (v : MasterSet) (m : MasterId) :
    v = onlyBit m.val ↔ hasBit v m.val = true ∧ removeBit v m.val = 0#4 := by
  revert v m; decide

/-- What taking one vote back leaves of the entry, if anything. -/
def keptEntry (m : MasterId) (e : Entry) : List Entry := [unvoted m e].filter fun x => x.voters ≠ 0#4

/-- The notice of an entry that had master m's vote alone (R36, R51). -/
def withdrawal (m : MasterId) (e : Entry) : List Notice :=
  if e.voters = onlyBit m.val then [.proposalEnded e.id e.subject e.action .withdrawn 0#4] else []

@[simp] theorem unvoted_key (m : MasterId) (e : Entry) : (unvoted m e).key = e.key := by
  unfold unvoted; split <;> rfl

theorem filter_append_cons {before after : List Entry} {e : Entry}
    (ids : (before ++ e :: after).Pairwise fun a b => a.id ≠ b.id) :
    (before ++ e :: after).filter (fun x => x.id ≠ e.id) = before ++ after := by
  obtain ⟨_, tail, apart⟩ := List.pairwise_append.mp ids
  obtain ⟨head, _⟩ := List.pairwise_cons.mp tail
  have first : before.filter (fun x => x.id ≠ e.id) = before :=
    List.filter_eq_self.mpr fun x member => decide_eq_true (apart x member e List.mem_cons_self)
  have last : after.filter (fun x => x.id ≠ e.id) = after :=
    List.filter_eq_self.mpr fun x member => decide_eq_true (head x member).symm
  rw [List.filter_append, first, List.filter_cons_of_neg (by simp), last]

theorem map_append_cons {before after : List Entry} {e e' : Entry} (same : e'.id = e.id)
    (ids : (before ++ e :: after).Pairwise fun a b => a.id ≠ b.id) :
    (before ++ e :: after).map (fun x => if x.id = e'.id then e' else x) = before ++ e' :: after := by
  obtain ⟨_, tail, apart⟩ := List.pairwise_append.mp ids
  obtain ⟨head, _⟩ := List.pairwise_cons.mp tail
  have first : before.map (fun x => if x.id = e'.id then e' else x) = before :=
    (List.map_congr_left fun x member => if_neg (same ▸ apart x member e List.mem_cons_self)).trans (List.map_id _)
  have last : after.map (fun x => if x.id = e'.id then e' else x) = after :=
    (List.map_congr_left fun x member => if_neg (same ▸ (head x member).symm)).trans (List.map_id _)
  rw [List.map_append, first, List.map_cons, last, if_pos same.symm]

/-- A vote taken back from an entry that holds it: the entry ends when it was the only one (R36, R46). -/
theorem takeVote_eq {m : MasterId} {e : Entry} (voter : hasBit e.voters m.val = true) (s : State) :
    takeVote m e s =
      if e.voters = onlyBit m.val then endEntry { e with voters := 0#4 } .withdrawn s
      else s.putEntry (unvoted m e) := by
  have alone := voters_eq_onlyBit_iff e.voters m
  simp only [voter, true_and] at alone
  unfold takeVote unvoted
  simp only [voter, if_true, alone]
  by_cases none : removeBit e.voters m.val = 0#4
  · rw [if_pos none, if_pos none, none]
  · rw [if_neg none, if_neg none, Entry.count]
    split <;> rfl

theorem keptEntry_eq (m : MasterId) {e : Entry} (voters : e.voters ≠ 0#4) :
    keptEntry m e = if e.voters = onlyBit m.val then [] else [unvoted m e] := by
  have alone := voters_eq_onlyBit_iff e.voters m
  unfold keptEntry unvoted
  by_cases voter : hasBit e.voters m.val = true
  · simp only [voter, true_and, if_true] at alone ⊢
    by_cases none : removeBit e.voters m.val = 0#4 <;> simp [alone, none]
  · simp [voter, alone, voters]

/-- One vote taken back from an entry in its place (R36, R46). -/
theorem removeVote_removed {s : State} {before after : List Entry} {e : Entry} (table : s.table = before ++ e :: after)
    (ids : s.table.Pairwise fun a b => a.id ≠ b.id) (voters : e.voters ≠ 0#4) (m : MasterId) :
    removeVote m s e = { s with
      table := before ++ (keptEntry m e ++ after),
      session := if e.subject = .config ∧ e.voters = onlyBit m.val then returned s.count s.session else s.session,
      status := (removeVote m s e).status } ∧
    Told (withdrawal m e) unmarked s (removeVote m s e) := by
  rw [table] at ids
  rw [keptEntry_eq m voters]
  unfold removeVote withdrawal
  by_cases voter : hasBit e.voters m.val = true
  · rw [if_pos voter, takeVote_eq voter]
    by_cases sole : e.voters = onlyBit m.val
    · simp only [if_pos sole]
      refine ⟨?_, endEntry_told s { e with voters := 0#4 } .withdrawn⟩
      rw [endEntry_frame, endEntry_session]
      simp only [table, filter_append_cons ids, sole, List.nil_append, or_true, and_true]
    · simp only [sole, and_false, if_false]
      refine ⟨?_, .of_same rfl rfl⟩
      have same : (unvoted m e).id = e.id := congrArg Prod.fst (unvoted_key m e)
      simp only [State.putEntry, State.setTable, table, map_append_cons same ids, List.singleton_append]
  · have others : e.voters ≠ onlyBit m.val := fun sole => voter ((voters_eq_onlyBit_iff e.voters m).mp sole).1
    have same : unvoted m e = e := if_neg voter
    simp only [if_neg voter, others, and_false, if_false, same, List.singleton_append, ← table]
    exact ⟨trivial, .refl s⟩

/-- Votes taken back one after another, from the entries that stand behind those already handled. -/
theorem foldl_removeVote_removed (m : MasterId) (after : List Entry) {s : State} {before : List Entry}
    (table : s.table = before ++ after) (ids : s.table.Pairwise fun a b => a.id ≠ b.id)
    (voters : ∀ e ∈ after, e.voters ≠ 0#4) :
    after.foldl (removeVote m) s = { s with
      table := before ++ (after.map (keptEntry m)).flatten,
      session := if ∃ e ∈ after, e.subject = .config ∧ e.voters = onlyBit m.val then returned s.count s.session
        else s.session,
      status := (after.foldl (removeVote m) s).status } ∧
    Told ((after.map (withdrawal m)).flatten) unmarked s (after.foldl (removeVote m) s) := by
  induction after generalizing s before with
  | nil =>
    simp only [List.not_mem_nil, false_and, exists_false, if_false, List.map_nil, List.flatten_nil, List.foldl_nil,
      ← table]
    exact ⟨trivial, .refl s⟩
  | cons e after ih =>
    obtain ⟨frame, told⟩ := removeVote_removed table ids (voters e List.mem_cons_self) m
    have table' : (removeVote m s e).table = (before ++ keptEntry m e) ++ after := by
      rw [frame, List.append_assoc]
    have ids' : (removeVote m s e).table.Pairwise fun a b => a.id ≠ b.id := by
      refine ids_of_keys ?_ ids
      rw [table', table, keptEntry_eq m (voters e List.mem_cons_self)]
      simp only [List.map_append, List.map_cons, List.append_assoc]
      refine (List.Sublist.refl _).append ?_
      split
      · exact List.sublist_cons_self _ _
      · simp
    obtain ⟨frame', told'⟩ := ih table' ids' fun x later => voters x (List.mem_cons_of_mem e later)
    refine ⟨?_, told.trans_unmarked told'⟩
    rw [List.foldl_cons, frame']
    have session : (removeVote m s e).session =
        if e.subject = .config ∧ e.voters = onlyBit m.val then returned s.count s.session else s.session := by
      rw [frame]
    have count : (removeVote m s e).count = s.count := by rw [frame]
    simp only [session, count, List.map_cons, List.flatten_cons, List.append_assoc, List.exists_mem_cons_iff]
    rw [frame]
    by_cases here : e.subject = .config ∧ e.voters = onlyBit m.val <;>
      by_cases later : ∃ x ∈ after, x.subject = .config ∧ x.voters = onlyBit m.val <;> simp [here, later]

/-! ### The whole removal (R96) -/

theorem flatten_keptEntry (m : MasterId) (l : List Entry) :
    (l.map (keptEntry m)).flatten = (l.map (unvoted m)).filter fun e => e.voters ≠ 0#4 := by
  induction l with
  | nil => rfl
  | cons e l ih =>
    rw [List.map_cons, List.flatten_cons, ih, List.map_cons, ← List.singleton_append, List.filter_append]
    rfl

theorem flatten_withdrawal (m : MasterId) (l : List Entry) :
    (l.map (withdrawal m)).flatten = (l.filter fun e => e.voters = onlyBit m.val).map fun e =>
      .proposalEnded e.id e.subject e.action .withdrawn 0#4 := by
  induction l with
  | nil => rfl
  | cons e l ih =>
    rw [List.map_cons, List.flatten_cons, ih, withdrawal, List.filter_cons]
    by_cases sole : e.voters = onlyBit m.val <;> simp [sole]

/-- The session that the removal leaves (R118, R124). -/
theorem sessionWithout_eq (s : State) (m : MasterId) :
    (if ∃ e ∈ outsideSession s m, e.subject = .config ∧ e.voters = onlyBit m.val
      then returned s.count (if s.session.owner? = some m then .none else s.session)
      else if s.session.owner? = some m then .none else s.session) = sessionWithout s m := by
  unfold sessionWithout outsideSession endsWithSession
  by_cases owner : s.session.owner? = some m
  · simp only [owner, if_true]
    split <;> rfl
  · simp only [owner, and_false, not_false_eq_true, decide_true, List.filter_true, if_false]
    cases s.session with
    | voting o sh rev => split <;> rfl
    | editing o sh rev d => split <;> rfl
    | none => split <;> rfl

/-- The removal of master m, said whole with its notices and flags (R96). -/
theorem removalFanOut_removed {s : State} (h : LineInv s) (law : TableLaw s) (m : MasterId) (r : RemovalReason) :
    MasterRemoved m s (removalFanOut m r s) ∧ (removalFanOut m r s).masters = s.masters ∧
      Told (removalNotices s m r.leaseReason r.cause) (leaseLost m (ownsALine s m)) s (removalFanOut m r s) := by
  have distinct : allLines.Nodup := by decide
  obtain ⟨lines, told⟩ := foldl_removeFromLine distinct m r h
  have lined := foldl_removeFromLine_frame m r allLines s
  unfold removalFanOut
  rw [← removeFromLines] at lines told lined
  generalize removeFromLines m r s = x at lines told lined ⊢
  have table : x.table = s.table := by rw [lined]
  have session : x.session = s.session := by rw [lined]
  have law' : TableLaw x := by
    obtain ⟨subjects, ids, voters, apply⟩ := law
    exact ⟨table ▸ subjects, table ▸ ids, table ▸ voters, by simpa only [table, session] using apply⟩
  obtain ⟨left, told'⟩ := endSessionOf_removed law' m
  have outside : outsideSession x m = outsideSession s m := by
    simp only [outsideSession, endsWithSession, table, session]
  generalize endSessionOf m x = y at left told' ⊢
  have table' : y.table = [] ++ outsideSession s m := by rw [left, ← outside]; rfl
  have ids : y.table.Pairwise fun a b => a.id ≠ b.id := by
    rw [table']
    exact law.ids.sublist List.filter_sublist
  have voters : ∀ e ∈ outsideSession s m, e.voters ≠ 0#4 := fun e member =>
    law.voters e (List.mem_of_mem_filter member)
  obtain ⟨voted, told''⟩ := foldl_removeVote_removed m (outsideSession s m) table' ids voters
  rw [removeVotes, show y.table = outsideSession s m from table']
  have session' : y.session = if s.session.owner? = some m then .none else s.session := by
    rw [left, ← session]
  have count : y.count = s.count := by rw [left, lined]
  rw [session', count, sessionWithout_eq, flatten_keptEntry] at voted
  rw [flatten_withdrawal] at told''
  generalize (outsideSession s m).foldl (removeVote m) y = z at voted told'' ⊢
  refine ⟨⟨?_, fun n => ?_, by rw [voted]; rfl, by rw [voted]⟩, by rw [voted, left, lined], ?_⟩
  · rw [voted, left, lined]
  · have kept : z.line n = x.line n := by rw [voted, left]; rfl
    rw [kept, lines, if_pos (mem_allLines n), removedLine]
  · refine ((told.trans_unmarked told').trans_unmarked told'').congr ?_ fun k => ?_
    · simp only [removalNotices, table, session, endsWithSession, outsideSession]
      rfl
    · simp only [leaseLost, ownsALine, mem_allLines, true_and]

end Sys2Proof.Machine
end

section
/-! PROOFS. What a removal (R96) takes and what it leaves, read off the records it gives. -/

namespace Sys2Proof.Machine

open Sys2Proof

/-! ### Settling leaves all but the feedback fields -/

section

variable (now : W32) (l : Line)

@[simp] theorem settling_cfg : (settling now l).cfg = l.cfg := by unfold settling; split <;> rfl
@[simp] theorem settling_commanded : (settling now l).commanded = l.commanded := by unfold settling; split <;> rfl
@[simp] theorem settling_asserted : (settling now l).asserted = l.asserted := by unfold settling; split <;> rfl
@[simp] theorem settling_owner : (settling now l).owner = l.owner := by unfold settling; split <;> rfl
@[simp] theorem settling_lease : (settling now l).lease = l.lease := by unfold settling; split <;> rfl
@[simp] theorem settling_pulse : (settling now l).pulse = l.pulse := by unfold settling; split <;> rfl

end

theorem hasBit_removeBit (set : MasterSet) (m k : MasterId) :
    hasBit (removeBit set m.val) k.val = (hasBit set k.val && decide (k ≠ m)) := by
  revert set m k; decide

/-! ### One line -/

namespace LineLaw

variable {l : Line} (law : LineLaw l) (m : MasterId)

include law

theorem withoutMaster_owner : (withoutMaster m l).owner = if l.owner = some m then none else l.owner := by
  unfold withoutMaster
  split
  next member => rw [(law.unowned_of_asserted member).2, if_neg nofun]
  · split <;> rfl

omit law in
theorem withoutMaster_asserted (k : MasterId) :
    hasBit (withoutMaster m l).asserted k.val = (hasBit l.asserted k.val && decide (k ≠ m)) := by
  unfold withoutMaster
  split
  · exact hasBit_removeBit _ _ _
  next absent =>
    have kept : hasBit l.asserted k.val = (hasBit l.asserted k.val && decide (k ≠ m)) := by
      by_cases same : k = m
      · subst same; simp [absent]
      · simp [same]
    split <;> exact kept

/-- A line that master m holds in no way is left as it is. -/
theorem withoutMaster_of_unheld (unasserted : l.cfg.policy ≠ .shared) (owner : l.owner ≠ some m) :
    withoutMaster m l = l := by
  rw [withoutMaster, law.unshared unasserted, if_neg (by simp [hasBit]), if_neg owner]

theorem withoutMaster_of_owner (owner : l.owner = some m) : withoutMaster m l = leaseless l := by
  have unasserted : ¬hasBit l.asserted m.val = true := fun member => by
    rw [(law.unowned_of_asserted member).2] at owner
    nomatch owner
  rw [withoutMaster, if_neg unasserted, if_pos owner]

/-- An owned line is LEASED (R57). -/
theorem leased_of_owner {k : MasterId} (owner : l.owner = some k) : l.cfg.policy = .leased := by
  by_contra other
  rw [law.leased other] at owner
  nomatch owner

end LineLaw

/-! ### The removal's record by record -/

namespace MasterRemoved

variable {m : MasterId} {s t : State} (removed : MasterRemoved m s t)

include removed

section Lines

variable (law : ∀ n, LineLaw (s.line n)) (n : LineId)

include law

theorem owner : (t.line n).owner = if (s.line n).owner = some m then none else (s.line n).owner := by
  rw [removed.line, ← (law n).withoutMaster_owner m]
  split <;> simp

omit law in
theorem asserted (k : MasterId) :
    hasBit (t.line n).asserted k.val = (hasBit (s.line n).asserted k.val && decide (k ≠ m)) := by
  rw [removed.line, ← LineLaw.withoutMaster_asserted m k]
  split <;> simp

theorem line_of_unheld (unasserted : (s.line n).cfg.policy ≠ .shared) (owner : (s.line n).owner ≠ some m) :
    t.line n = s.line n := by
  have same := (law n).withoutMaster_of_unheld m unasserted owner
  rw [show t.line n = removedLine s m n from removed.line n, removedLine_of same, State.driven_eq, if_pos rfl]

theorem line_of_other_owner {k : MasterId} (other : k ≠ m) (owner : (s.line n).owner = some k) :
    t.line n = s.line n := by
  refine removed.line_of_unheld law n ?_ ?_
  · rw [(law n).leased_of_owner owner]; nofun
  · rw [owner]
    exact fun same => other (Option.some.inj same)

theorem line_of_policy (policy : (s.line n).cfg.policy = .quorum ∨ (s.line n).cfg.policy = .fixed) :
    t.line n = s.line n := by
  refine removed.line_of_unheld law n ?_ ?_
  · rcases policy with p | p <;> rw [p] <;> nofun
  · rw [(law n).leased (by rcases policy with p | p <;> rw [p] <;> nofun)]
    nofun

theorem line_of_owner (owner : (s.line n).owner = some m) :
    (t.line n).commanded = .released ∧ (t.line n).lease = none ∧ (t.line n).pulse = none := by
  rw [show t.line n = removedLine s m n from removed.line n, removedLine_of ((law n).withoutMaster_of_owner m owner)]
  split <;> simp [leaseless]

theorem not_holding : hasBit (t.line n).asserted m.val = false ∧ (t.line n).owner ≠ some m := by
  refine ⟨by rw [removed.asserted]; simp, ?_⟩
  rw [removed.owner law]
  split
  · nofun
  next other => exact other

end Lines

/-- Every entry that is left stood in the table, without m's vote perhaps. -/
theorem exists_of_mem {x : Entry} (member : x ∈ t.table) :
    ∃ e ∈ s.table, x = unvoted m e ∧ (e.subject = .config → s.session.owner? ≠ some m) ∧ x.voters ≠ 0#4 := by
  rw [removed.table] at member
  obtain ⟨found, voters⟩ := List.mem_filter.mp member
  obtain ⟨e, outside, rfl⟩ := List.mem_map.mp found
  obtain ⟨stood, left⟩ := List.mem_filter.mp outside
  exact ⟨e, stood, rfl, fun config owner => of_decide_eq_true left ⟨config, owner⟩, of_decide_eq_true voters⟩

theorem session_owner_ne : t.session.owner? ≠ some m := by
  rw [removed.session, sessionWithout]
  split
  · nofun
  next other =>
    split
    next o sh rev voting =>
      rw [voting] at other
      split <;> exact other
    · exact other

theorem session_owner {k : MasterId} (other : k ≠ m) (owner : s.session.owner? = some k) :
    t.session.owner? = some k := by
  rw [removed.session, sessionWithout, if_neg]
  · split
    next o sh rev voting =>
      rw [voting] at owner
      split <;> exact owner
    · exact owner
  · rw [owner]
    exact fun same => other (Option.some.inj same)

/-- A session that is left is its owner's from before. -/
theorem session_owner_of {k : MasterId} (owner : t.session.owner? = some k) : s.session.owner? = some k := by
  rw [removed.session, sessionWithout] at owner
  split at owner
  · nomatch owner
  · split at owner
    next voting =>
      rw [voting]
      split at owner <;> exact owner
    · exact owner

end MasterRemoved

theorem hasBit_unvoted (m k : MasterId) (e : Entry) :
    hasBit (unvoted m e).voters k.val = (hasBit e.voters k.val && decide (k ≠ m)) := by
  unfold unvoted
  split
  · exact hasBit_removeBit _ _ _
  next absent =>
    by_cases same : k = m
    · subst same; simp [absent]
    · simp [same]

end Sys2Proof.Machine
end

section
/-! PROOFS. The decision state (R20, R21, R43, R57, R59, R99, R109): its laws, apart from how the session stands with
its APPLY entry, and what keeps them. -/

namespace Sys2Proof.Machine

open Sys2Proof

/-! ### The laws in two parts -/

/-- The laws of the decision state, but for the session and its APPLY entry. -/
structure DecisionCore (s : State) : Prop where
  lines : LineInv s
  holders : HoldersEligible s
  entries : ∀ e ∈ s.table, EntryLaw s e
  subjects : s.table.Pairwise fun a b => a.subject ≠ b.subject
  counter : s.nextId ≠ 0#8
  unquarantined : ∃ m, (s.master m).quarantined = false

/-- The APPLY entry stands exactly while the session is in VOTING, and holds its revision (R109). -/
structure SessionLaw (s : State) : Prop where
  apply : ∀ e ∈ s.table, e.subject = .config → ∃ o sh rev, s.session = .voting o sh rev ∧ e.revision = some rev
  voting : ∀ o sh rev, s.session = .voting o sh rev → ∃ e ∈ s.table, e.subject = .config

theorem DecisionInv.core {s : State} (h : DecisionInv s) : DecisionCore s :=
  ⟨h.lines, h.holders, h.entries, h.subjects, h.counter, h.unquarantined⟩

theorem DecisionInv.sessionLaw {s : State} (h : DecisionInv s) : SessionLaw s := ⟨h.apply, h.voting⟩

theorem DecisionCore.inv {s : State} (h : DecisionCore s) (law : SessionLaw s) : DecisionInv s :=
  ⟨h.lines, h.holders, h.entries, h.subjects, h.counter, law.apply, law.voting, h.unquarantined⟩

/-- The session laws read the table and the session. -/
theorem SessionLaw.congr {s t : State} (law : SessionLaw s) (table : t.table = s.table)
    (session : t.session = s.session) : SessionLaw t := by
  obtain ⟨apply, voting⟩ := law
  exact ⟨by rwa [table, session], by rwa [table, session]⟩

/-- Without an APPLY entry the session is not in VOTING. -/
theorem SessionLaw.of_vacant {s : State} (vacant : ∀ e ∈ s.table, e.subject ≠ .config)
    (session : ∀ o sh rev, s.session ≠ .voting o sh rev) : SessionLaw s :=
  ⟨fun e member config => absurd config (vacant e member), fun o sh rev voting => absurd voting (session o sh rev)⟩

/-- The laws are kept when nothing is added but holdings of eligible masters, and nobody loses eligibility. -/
theorem DecisionCore.shrink {s t : State} (h : DecisionCore s) (lines : LineInv t)
    (hold : t.hold.qualified = s.hold.qualified) (eligible : ∀ m, s.eligible m = true → t.eligible m = true)
    (assertions : ∀ n m, hasBit (t.line n).asserted m.val = true → s.eligible m = true)
    (owners : ∀ n m, (t.line n).owner = some m → s.eligible m = true)
    (session : ∀ m, t.session.owner? = some m → s.eligible m = true) (table : t.table.Sublist s.table)
    (marks : ∀ e ∈ t.table, ∀ m, e.subject = .master m → (t.master m).quarantined = (s.master m).quarantined)
    (counter : t.nextId = s.nextId) (unquarantined : ∃ m, (t.master m).quarantined = false) : DecisionCore t where
  lines := lines
  holders :=
    ⟨fun n m member => eligible m (assertions n m member), fun n m owner => eligible m (owners n m owner),
      fun e member m voter => eligible m (h.holders.voters e (table.subset member) m voter),
      fun m owner => eligible m (session m owner)⟩
  entries e member := by
    have law := h.entries e (table.subset member)
    exact ⟨law.pairing, law.voters, law.id, law.count, fun ready => hold ▸ law.ready ready, law.target,
      fun m on => marks e member m on ▸ law.quarantine m on⟩
  subjects := h.subjects.sublist table
  counter := counter ▸ h.counter
  unquarantined := unquarantined

/-! ### States alike -/

/-- Two states alike in all the decision laws read, the line laws apart. -/
structure Alike (s t : State) : Prop where
  marks : ∀ m, (t.master m).presence = (s.master m).presence ∧ (t.master m).quarantined = (s.master m).quarantined
  holding : ∀ n, (t.line n).asserted = (s.line n).asserted ∧ (t.line n).owner = (s.line n).owner
  hold : t.hold.qualified = s.hold.qualified
  table : t.table = s.table
  session : t.session = s.session
  counter : t.nextId = s.nextId

namespace Alike

variable {s t u : State}

theorem trans (first : Alike s t) (second : Alike t u) : Alike s u where
  marks m := ⟨(second.marks m).1.trans (first.marks m).1, (second.marks m).2.trans (first.marks m).2⟩
  holding n := ⟨(second.holding n).1.trans (first.holding n).1, (second.holding n).2.trans (first.holding n).2⟩
  hold := second.hold.trans first.hold
  table := second.table.trans first.table
  session := second.session.trans first.session
  counter := second.counter.trans first.counter

theorem of_eq (masters : t.masters = s.masters) (lines : t.lines = s.lines)
    (hold : t.hold.qualified = s.hold.qualified) (table : t.table = s.table) (session : t.session = s.session)
    (counter : t.nextId = s.nextId) : Alike s t where
  marks m := by rw [State.master, masters]; exact ⟨rfl, rfl⟩
  holding n := by rw [State.line, lines]; exact ⟨rfl, rfl⟩
  hold := hold
  table := table
  session := session
  counter := counter

theorem refl (s : State) : Alike s s := .of_eq rfl rfl rfl rfl rfl rfl

/-- Lines that change in other fields than the assertion set and the owner. -/
theorem of_lines (frame : t = { s with lines := t.lines, status := t.status })
    (holding : ∀ n, (t.line n).asserted = (s.line n).asserted ∧ (t.line n).owner = (s.line n).owner) : Alike s t where
  marks m := by rw [frame]; exact ⟨rfl, rfl⟩
  holding := holding
  hold := by rw [frame]
  table := by rw [frame]
  session := by rw [frame]
  counter := by rw [frame]

theorem eligible (alike : Alike s t) (m : MasterId) : t.eligible m = s.eligible m := by
  rw [State.eligible, (alike.marks m).1, (alike.marks m).2, State.eligible]

end Alike

/-- States alike keep the decision laws together. -/
theorem DecisionInv.alike {s t : State} (h : DecisionInv s) (lines : LineInv t) (alike : Alike s t) :
    DecisionInv t := by
  refine (h.core.shrink lines alike.hold (fun m eligible => (alike.eligible m).trans eligible) ?_ ?_ ?_ ?_ ?_
    alike.counter ?_).inv (h.sessionLaw.congr alike.table alike.session)
  · exact fun n m member => h.holders.assertions n m ((alike.holding n).1 ▸ member)
  · exact fun n m owner => h.holders.owners n m ((alike.holding n).2 ▸ owner)
  · exact fun m owner => h.holders.session m (alike.session ▸ owner)
  · rw [alike.table]
  · exact fun _ _ m _ => (alike.marks m).2
  · obtain ⟨m, free⟩ := h.unquarantined
    exact ⟨m, (alike.marks m).2.trans free⟩

/-! ### Claims on lines -/

/-- A claim leaves the assertion sets and owners that its change leaves. -/
theorem ClaimTaken.holding {n : LineId} {cause : Cause} {f : Line → Line} {s t : State} (h : ClaimTaken n cause f s t)
    (k : LineId) : (t.line k).asserted = (if k = n then f (s.line n) else s.line k).asserted ∧
      (t.line k).owner = (if k = n then f (s.line n) else s.line k).owner := by
  by_cases same : k = n
  · subst same
    rw [h.line, if_pos rfl]
    split
    · exact ⟨rfl, rfl⟩
    · split <;> exact ⟨rfl, rfl⟩
  · rw [h.others k same, if_neg same]
    exact ⟨rfl, rfl⟩

theorem lineClaim_alike (s : State) (n : LineId) (cause : Cause) {f : Line → Line}
    (asserted : (f (s.line n)).asserted = (s.line n).asserted) (owner : (f (s.line n)).owner = (s.line n).owner) :
    Alike s (lineClaim n cause f s) := by
  have taken := lineClaim_taken s n cause f
  refine .of_lines taken.frame fun k => ?_
  rw [(taken.holding k).1, (taken.holding k).2]
  by_cases same : k = n
  · subst same; simp [asserted, owner]
  · simp [same]

theorem updLine_alike (s : State) (n : LineId) {f : Line → Line}
    (asserted : (f (s.line n)).asserted = (s.line n).asserted) (owner : (f (s.line n)).owner = (s.line n).owner) :
    Alike s (s.updLine n f) := by
  refine .of_lines rfl fun k => ?_
  rw [State.updLine_line]
  split
  next same => rw [same]; exact ⟨asserted, owner⟩
  · exact ⟨rfl, rfl⟩

/-- Lines that change under the eye of the same masters, with holdings of eligible masters alone. -/
theorem DecisionInv.of_lines {s t : State} (h : DecisionInv s) (lines : LineInv t)
    (frame : t = { s with lines := t.lines, status := t.status })
    (assertions : ∀ n m, hasBit (t.line n).asserted m.val = true → s.eligible m = true)
    (owners : ∀ n m, (t.line n).owner = some m → s.eligible m = true) : DecisionInv t := by
  have masters (m : MasterId) : t.master m = s.master m := by rw [frame]; rfl
  have table : t.table = s.table := by rw [frame]
  have session : t.session = s.session := by rw [frame]
  refine (h.core.shrink lines (by rw [frame]) (fun m eligible => ?_) assertions owners ?_ ?_ ?_ (by rw [frame])
    ?_).inv (h.sessionLaw.congr table session)
  · rwa [State.eligible, masters]
  · exact fun m owner => h.holders.session m (session ▸ owner)
  · rw [table]
  · exact fun _ _ m _ => by rw [masters]
  · simpa only [masters] using h.unquarantined

/-- A claim on a line by which eligible masters alone come to hold something. -/
theorem DecisionInv.claim {s t : State} (h : DecisionInv s) {n : LineId} {cause : Cause} {f : Line → Line}
    (lines : LineInv t) (taken : ClaimTaken n cause f s t)
    (assertions : ∀ m, hasBit (f (s.line n)).asserted m.val = true → s.eligible m = true)
    (owners : ∀ m, (f (s.line n)).owner = some m → s.eligible m = true) : DecisionInv t := by
  refine h.of_lines lines taken.frame (fun k m member => ?_) fun k m owner => ?_
  · rw [(taken.holding k).1] at member
    by_cases same : k = n
    · rw [if_pos same] at member; exact assertions m member
    · rw [if_neg same] at member; exact h.holders.assertions k m member
  · rw [(taken.holding k).2] at owner
    by_cases same : k = n
    · rw [if_pos same] at owner; exact owners m owner
    · rw [if_neg same] at owner; exact h.holders.owners k m owner

/-! ### Entries that leave -/

theorem EntryLaw.of_masters {s t : State} {e : Entry} (law : EntryLaw s e) (hold : t.hold = s.hold)
    (masters : t.masters = s.masters) : EntryLaw t e := by
  have master (m : MasterId) : t.master m = s.master m := congrArg (fun v => Vector.get v m) masters
  exact ⟨law.pairing, law.voters, law.id, law.count, fun ready => hold ▸ law.ready ready, law.target,
    fun m on => master m ▸ law.quarantine m on⟩

/-- The laws without some entries of the table, and with a session of the same owner or none. -/
theorem DecisionCore.of_table {s t : State} (h : DecisionCore s)
    (frame : t = { s with table := t.table, session := t.session, status := t.status })
    (table : t.table.Sublist s.table) (session : ∀ m, t.session.owner? = some m → s.session.owner? = some m) :
    DecisionCore t := by
  have masters (m : MasterId) : t.master m = s.master m := by rw [frame]; rfl
  have line (n : LineId) : t.line n = s.line n := by rw [frame]; rfl
  refine h.shrink (h.lines.of_table ⟨frame, table.map _⟩) (by rw [frame]) (fun m eligible => ?_) ?_ ?_
    (fun m owner => h.holders.session m (session m owner)) table (fun _ _ m _ => by rw [masters]) (by rw [frame]) ?_
  · rwa [State.eligible, masters]
  · exact fun n m member => h.holders.assertions n m (line n ▸ member)
  · exact fun n m owner => h.holders.owners n m (line n ▸ owner)
  · simpa only [masters] using h.unquarantined

theorem returned_owner (now : W32) (x : Session) : (returned now x).owner? = x.owner? := by
  cases x <;> rfl

theorem endEntry_owner (s : State) (e : Entry) (out : EntryOutcome) :
    (endEntry e out s).session.owner? = s.session.owner? := by
  rw [endEntry_session]
  split
  · exact returned_owner _ _
  · rfl

theorem returned_ne_voting (now : W32) (x : Session) (o : MasterId) (sh : Configuration) (rev : W16) :
    returned now x ≠ .voting o sh rev := by
  cases x <;> nofun

/-- An entry may leave the table, the APPLY entry when it expires or is withdrawn (R45, R46, R118). -/
theorem DecisionInv.endEntry {s : State} (h : DecisionInv s) {e x : Entry} (member : x ∈ s.table) (id : x.id = e.id)
    (subject : x.subject = e.subject) {out : EntryOutcome}
    (returning : e.subject = .config → out = .expired ∨ out = .withdrawn) : DecisionInv (endEntry e out s) := by
  have session := endEntry_session s e out
  have rest : (Machine.endEntry e out s).table = s.table.filter fun y => y.subject ≠ e.subject := by
    rw [endEntry_table, ← id, ← subject]
    exact filter_id_eq_filter_subject h.subjects h.lines.ids member
  refine (h.core.of_table (endEntry_kept s e out).frame ?_ ?_).inv ?_
  · rw [rest]; exact List.filter_sublist
  · exact fun m owner => endEntry_owner s e out ▸ owner
  by_cases config : e.subject = .config
  · refine .of_vacant (fun y left => ?_) fun o sh rev => ?_
    · rw [rest, config] at left
      simpa using (List.mem_filter.mp left).2
    · rw [session, if_pos ⟨config, returning config⟩]
      exact returned_ne_voting _ _ _ _ _
  · rw [if_neg fun due => config due.1] at session
    refine ⟨fun y left on => ?_, fun o sh rev voting => ?_⟩
    · rw [rest] at left
      rw [session]
      exact h.apply y (List.mem_of_mem_filter left) on
    · obtain ⟨y, found, on⟩ := h.voting o sh rev (session ▸ voting)
      refine ⟨y, ?_, on⟩
      rw [rest]
      exact List.mem_filter.mpr ⟨found, by simpa [on] using Ne.symm config⟩

theorem DecisionInv.tableLaw {s : State} (h : DecisionInv s) : TableLaw s where
  subjects := h.subjects
  ids := h.lines.ids
  voters e member := (h.entries e member).voters
  apply e member config := by
    obtain ⟨o, sh, rev, voting, _⟩ := h.apply e member config
    exact ⟨o, sh, rev, voting⟩

/-- A session ends with its APPLY entry (R48, R124). -/
theorem DecisionInv.endSession {s : State} (h : DecisionInv s) {m : MasterId} (owner : s.session.owner? = some m) :
    DecisionInv (endSession s) := by
  obtain ⟨frame, _⟩ := endSessionOf_removed h.tableLaw m
  rw [endSessionOf, if_pos owner] at frame
  have rest : (Machine.endSession s).table = outsideSession s m := by rw [frame]
  have none : (Machine.endSession s).session = .none := by rw [frame, if_pos owner]
  refine (h.core.of_table (endSession_kept s).frame ?_ ?_).inv (.of_vacant (fun e left config => ?_) ?_)
  · rw [rest]; exact List.filter_sublist
  · rw [none]; nofun
  · rw [rest] at left
    exact of_decide_eq_true (List.mem_filter.mp left).2 ⟨config, owner⟩
  · rw [none]; nofun

end Sys2Proof.Machine
end

section
/-! PROOFS. The decision laws where a master is removed (R96), where votes are counted (R29 to R32, R36, R43) and where
an entry is carried (R38 to R42). -/

namespace Sys2Proof.Machine

open Sys2Proof

/-! ### Counting the members of a set -/

theorem masterCount_removeBit_le (v : MasterSet) (m : MasterId) : masterCount (removeBit v m.val) ≤ masterCount v := by
  revert v m; decide

theorem hasBit_addBit (v : MasterSet) (m k : MasterId) :
    hasBit (addBit v m.val) k.val = (hasBit v k.val || decide (k = m)) := by
  revert v m k; decide

theorem hasBit_onlyBit (m k : MasterId) : hasBit (onlyBit m.val : MasterSet) k.val = decide (k = m) := by
  revert m k; decide

theorem ne_zero_of_hasBit {v : MasterSet} {m : MasterId} (member : hasBit v m.val = true) : v ≠ 0#4 := by
  rintro rfl
  simp [hasBit] at member

/-! ### Entries but for their count -/

/-- The laws of an entry, but that its count is below the required count (R20, R22, R23, R27, R43). -/
structure EntryBase (s : State) (e : Entry) : Prop where
  pairing : pairing e.subject e.action = true
  voters : e.voters ≠ 0#4
  id : e.id ≠ 0#8
  ready : e.state = .ready → s.hold.qualified = .asserted ∧ e.activates = true
  target : ∀ m : MasterId, e.subject = .master m → hasBit e.voters m.val = false
  quarantine : ∀ m, e.subject = .master m → ((s.master m).quarantined = true ↔ e.action = .reinstate)

theorem EntryLaw.base {s : State} {e : Entry} (law : EntryLaw s e) : EntryBase s e :=
  ⟨law.pairing, law.voters, law.id, law.ready, law.target, law.quarantine⟩

theorem EntryBase.law {s : State} {e : Entry} (base : EntryBase s e)
    (count : e.state = .voting → e.count < e.required.toNat) : EntryLaw s e :=
  ⟨base.pairing, base.voters, base.id, count, base.ready, base.target, base.quarantine⟩

theorem unvoted_state (m : MasterId) (e : Entry) : (unvoted m e).state = .ready → e.state = .ready := by
  unfold unvoted
  split
  · dsimp only
    split
    · nofun
    · exact id
  · exact id

theorem unvoted_required (m : MasterId) (e : Entry) : (unvoted m e).required = e.required := by
  unfold unvoted; split <;> rfl

theorem unvoted_count_le (m : MasterId) (e : Entry) : (unvoted m e).count ≤ e.count := by
  unfold unvoted Entry.count
  split
  · exact masterCount_removeBit_le _ _
  · exact le_rfl

/-- An OPEN entry that loses a vote is below its count; a READY one that stays READY is READY under the same
conditions (R36, R43, R46). -/
theorem unvoted_below {s : State} {e : Entry} (law : EntryLaw s e) (m : MasterId)
    (voting : (unvoted m e).state = .voting) : (unvoted m e).count < (unvoted m e).required.toNat := by
  rw [unvoted_required]
  cases before : e.state with
  | voting => exact (unvoted_count_le m e).trans_lt (law.count before)
  | ready =>
    unfold unvoted at voting ⊢
    by_cases voter : hasBit e.voters m.val = true
    · simp only [voter, if_true, before, true_and, Entry.count] at voting ⊢
      by_contra enough
      rw [if_neg enough] at voting
      nomatch voting
    · rw [if_neg voter, before] at voting
      nomatch voting

theorem unvoted_fields (m : MasterId) (e : Entry) :
    (unvoted m e).id = e.id ∧ (unvoted m e).subject = e.subject ∧ (unvoted m e).action = e.action ∧
      (unvoted m e).revision = e.revision ∧ (unvoted m e).activates = e.activates := by
  unfold unvoted; split <;> exact ⟨rfl, rfl, rfl, rfl, rfl⟩

/-- An entry that keeps a voter keeps its laws when a vote is taken back. -/
theorem EntryLaw.unvoted {s t : State} {e : Entry} (law : EntryLaw s e) (m : MasterId)
    (voters : (unvoted m e).voters ≠ 0#4) (hold : t.hold = s.hold)
    (marks : ∀ k, e.subject = .master k → (t.master k).quarantined = (s.master k).quarantined) :
    EntryLaw t (unvoted m e) := by
  obtain ⟨id, subject, action, _, activates⟩ := unvoted_fields m e
  refine ⟨by rw [subject, action]; exact law.pairing, voters, by rw [id]; exact law.id, unvoted_below law m,
    fun ready => ?_, fun k on => ?_, fun k on => ?_⟩
  · rw [hold, activates]; exact law.ready (unvoted_state m e ready)
  · rw [hasBit_unvoted, law.target k (subject ▸ on)]; rfl
  · rw [action, marks k (subject ▸ on)]; exact law.quarantine k (subject ▸ on)

theorem unvoted_voters_ne_zero (m : MasterId) {e : Entry} (voters : e.voters ≠ 0#4) :
    (unvoted m e).voters ≠ 0#4 ↔ e.voters ≠ onlyBit m.val := by
  have kept := keptEntry_eq m voters
  unfold keptEntry at kept
  by_cases sole : e.voters = onlyBit m.val
  · rw [if_pos sole, List.filter_eq_nil_iff] at kept
    simpa [sole] using kept
  · rw [if_neg sole, List.filter_eq_self] at kept
    simpa [sole] using kept

/-! ### Removal -/

/-- The session stays in VOTING exactly when its owner and the APPLY entry stay (R118, R124). -/
theorem sessionWithout_voting_iff (s : State) (m o : MasterId) (sh : Configuration) (rev : W16) :
    sessionWithout s m = .voting o sh rev ↔
      s.session = .voting o sh rev ∧ o ≠ m ∧ ∀ e ∈ s.table, e.subject = .config → e.voters ≠ onlyBit m.val := by
  unfold sessionWithout
  cases session : s.session with
  | none => simp [Session.owner?]
  | editing o' sh' rev' d => by_cases owner : o' = m <;> simp [Session.owner?, owner]
  | voting o' sh' rev' =>
    by_cases owner : o' = m
    · simp only [Session.owner?, owner, if_true]
      exact iff_of_false nofun fun ⟨same, other, _⟩ => other (by injection same with same; exact same.symm)
    · simp only [Session.owner?, Option.some.injEq, owner, if_false]
      by_cases sole : ∃ e ∈ s.table, e.subject = .config ∧ e.voters = onlyBit m.val
      · obtain ⟨e, stood, config, only⟩ := sole
        rw [if_pos ⟨e, stood, config, only⟩]
        exact iff_of_false nofun fun ⟨_, _, kept⟩ => kept e stood config only
      · rw [if_neg sole]
        push Not at sole
        exact ⟨fun same => ⟨same, by injection same with same; exact same ▸ owner, sole⟩, And.left⟩

/-- The removal of a master whose record changes keeps the laws, when no entry has the master's mark as its business
(R96, R99). -/
theorem DecisionInv.removed {s y : State} (h : DecisionInv s) (m : MasterId) (r : Master)
    (marks : ∀ e ∈ s.table, e.subject = .master m → r.quarantined = (s.master m).quarantined)
    (unquarantined : ∃ k, ((s.setMaster m r).master k).quarantined = false)
    (removed : MasterRemoved m (s.setMaster m r) y) (masters : y.masters = (s.setMaster m r).masters)
    (lines : LineInv y) : DecisionInv y := by
  have master (k : MasterId) : y.master k = if k = m then r else s.master k := by
    rw [State.master, masters, ← State.master, State.setMaster_master]
  have eligible {k : MasterId} (other : k ≠ m) (before : s.eligible k = true) : y.eligible k = true := by
    rwa [State.eligible, master, if_neg other]
  have hold : y.hold = s.hold := by rw [removed.frame]; rfl
  have law := h.lines.law
  refine ⟨lines, ⟨fun n k member => ?_, fun n k owner => ?_, fun x left k voter => ?_, fun k owner => ?_⟩,
    fun x left => ?_, ?_, by rw [removed.frame]; exact h.counter, fun x left config => ?_, fun o sh rev voting => ?_,
    ?_⟩
  case refine_1 =>
    rw [removed.asserted, Bool.and_eq_true, decide_eq_true_iff] at member
    exact eligible member.2 (h.holders.assertions n k member.1)
  case refine_2 =>
    have other : k ≠ m := by rintro rfl; exact (removed.not_holding law n).2 owner
    rw [removed.owner law] at owner
    split at owner
    · nomatch owner
    · exact eligible other (h.holders.owners n k owner)
  case refine_3 =>
    obtain ⟨e, stood, rfl, _⟩ := removed.exists_of_mem left
    rw [hasBit_unvoted, Bool.and_eq_true, decide_eq_true_iff] at voter
    exact eligible voter.2 (h.holders.voters e stood k voter.1)
  case refine_4 =>
    have other : k ≠ m := by rintro rfl; exact removed.session_owner_ne owner
    exact eligible other (h.holders.session k (removed.session_owner_of owner))
  case refine_5 =>
    obtain ⟨e, stood, rfl, _, voters⟩ := removed.exists_of_mem left
    refine (h.entries e stood).unvoted m voters hold fun k on => ?_
    rw [master]
    split
    next same => rw [same]; exact marks e stood (same ▸ on)
    · rfl
  case refine_6 =>
    rw [removed.table]
    refine List.Pairwise.sublist List.filter_sublist (List.pairwise_map.mpr ?_)
    refine (h.subjects.sublist List.filter_sublist).imp fun {a b} differ => ?_
    rwa [(unvoted_fields m a).2.1, (unvoted_fields m b).2.1]
  case refine_7 =>
    obtain ⟨e, stood, rfl, stranger, voters⟩ := removed.exists_of_mem left
    obtain ⟨_, subject, _, revision, _⟩ := unvoted_fields m e
    have on : e.subject = .config := subject ▸ config
    obtain ⟨o, sh, rev, voting, has⟩ := h.apply e stood on
    refine ⟨o, sh, rev, ?_, revision.trans has⟩
    rw [removed.session, sessionWithout_voting_iff]
    refine ⟨voting, fun owner => stranger on ?_, fun x found same => ?_⟩
    · rw [State.setMaster_session, voting, owner]; rfl
    · have entry : x = e := eq_of_pairwise_ne h.subjects found stood (same.trans on.symm)
      exact entry ▸ (unvoted_voters_ne_zero m (h.entries e stood).voters).mp voters
  case refine_8 =>
    rw [removed.session, sessionWithout_voting_iff] at voting
    obtain ⟨before, other, kept⟩ := voting
    obtain ⟨e, stood, config⟩ := h.voting o sh rev before
    refine ⟨unvoted m e, ?_, (unvoted_fields m e).2.1.trans config⟩
    have stays : (unvoted m e).voters ≠ 0#4 :=
      (unvoted_voters_ne_zero m (h.entries e stood).voters).mpr (kept e stood config)
    rw [removed.table]
    refine List.mem_filter.mpr ⟨List.mem_map_of_mem (List.mem_filter.mpr ⟨stood, ?_⟩), decide_eq_true stays⟩
    refine decide_eq_true fun ends => other ?_
    have owner : (s.setMaster m r).session.owner? = some m := ends.2
    rw [before] at owner
    exact Option.some.inj owner
  case refine_9 =>
    obtain ⟨k, free⟩ := unquarantined
    exact ⟨k, by rwa [State.master, masters]⟩

theorem TableLaw.setMaster {s : State} (law : TableLaw s) (m : MasterId) (r : Master) : TableLaw (s.setMaster m r) :=
  ⟨law.subjects, law.ids, law.voters, law.apply⟩

theorem raise_alike (nt : Notice) (s : State) : Alike s (raise nt s) := .of_eq rfl rfl rfl rfl rfl rfl

theorem setFlag_alike (m : MasterId) (f : Flag) (s : State) : Alike s (setFlag m f s) := .of_eq rfl rfl rfl rfl rfl rfl

theorem setStat_alike (m : MasterId) (r : StatusRecord) (s : State) : Alike s (s.setStat m r) :=
  .of_eq rfl rfl rfl rfl rfl rfl

/-- The absence of a master keeps the laws (R92, R96). -/
theorem DecisionInv.expireMaster {s : State} (h : DecisionInv s) (m : MasterId) : DecisionInv (expireMaster m s) := by
  have unquarantined : ∃ k, ((s.setMaster m { s.master m with presence := .absent, deadline := none }).master
      k).quarantined = false := by
    obtain ⟨k, free⟩ := h.unquarantined
    refine ⟨k, ?_⟩
    rw [State.setMaster_master]
    split
    next same => rwa [same] at free
    · exact free
  have lines := h.lines.expireMaster m
  unfold Machine.expireMaster raiseMasterChanged at lines ⊢
  dsimp only at lines ⊢
  obtain ⟨removed, masters, _⟩ := removalFanOut_removed (h.lines.setMaster m
    { s.master m with presence := .absent, deadline := none }) (h.tableLaw.setMaster m _) m .absent
  have fanned := (h.lines.setMaster m { s.master m with presence := .absent, deadline := none }).removalFanOut m .absent
  have kept := h.removed m { s.master m with presence := .absent, deadline := none } (fun _ _ _ => rfl)
    unquarantined removed masters fanned
  generalize removalFanOut m .absent _ = y at kept lines ⊢
  exact kept.alike lines ((setStat_alike m _ y).trans (raise_alike _ _))

/-! ### Counting votes (R29 to R32, R36, R43) -/

/-- Entry e stands in a table that is lawful but perhaps for the count of e, which is still to be looked at. -/
structure Counting (e : Entry) (s : State) : Prop where
  member : e ∈ s.table
  lines : LineInv s
  holders : HoldersEligible s
  others : ∀ x ∈ s.table, x.id ≠ e.id → EntryLaw s x
  own : EntryBase s e
  subjects : s.table.Pairwise fun a b => a.subject ≠ b.subject
  counter : s.nextId ≠ 0#8
  unquarantined : ∃ m, (s.master m).quarantined = false
  session : SessionLaw s

theorem DecisionInv.counting {s : State} (h : DecisionInv s) {e : Entry} (member : e ∈ s.table) : Counting e s :=
  ⟨member, h.lines, h.holders, fun x found _ => h.entries x found, (h.entries e member).base, h.subjects, h.counter,
    h.unquarantined, h.sessionLaw⟩

/-- A newer version of an entry takes its place (R30, R36, R43). -/
theorem mem_putEntry {s : State} {e x : Entry} (found : x ∈ (s.putEntry e).table) :
    x = e ∨ x ∈ s.table ∧ x.id ≠ e.id := by
  obtain ⟨y, stood, rfl⟩ := List.mem_map.mp found
  by_cases same : y.id = e.id
  · exact .inl (if_pos same)
  · rw [if_neg same]; exact .inr ⟨stood, same⟩

namespace Counting

variable {e e' : Entry} {s : State}

theorem knows (h : Counting e s) : s.knows e := h.lines.knows h.member

/-- The entry may be replaced by a version of itself with other votes and another state. -/
theorem replace (h : Counting e s) (id : e'.id = e.id) (subject : e'.subject = e.subject)
    (revision : e'.revision = e.revision) (own : EntryBase s e')
    (voters : ∀ m : MasterId, hasBit e'.voters m.val = true → s.eligible m = true) : Counting e' (s.putEntry e') := by
  have known : s.knows e' := fun x found same => (h.knows x found (same.trans id)).trans subject.symm
  have stands : e' ∈ (s.putEntry e').table := List.mem_map.mpr ⟨e, h.member, if_pos id.symm⟩
  have keys : (s.putEntry e').table.map Entry.subject = s.table.map Entry.subject := by
    rw [State.putEntry, State.setTable_table, List.map_map]
    refine List.map_congr_left fun x found => ?_
    by_cases same : x.id = e'.id
    · simp [same, known x found same]
    · simp [same]
  have distinct (l : List Entry) := List.pairwise_map (l := l) (f := Entry.subject) (R := fun a b => a ≠ b)
  refine ⟨stands, h.lines.putEntry known, ⟨h.holders.assertions, h.holders.owners, fun x found => ?_,
    h.holders.session⟩, fun x found other => ?_, ?_, ?_, h.counter, h.unquarantined,
    ⟨fun x found config => ?_, fun o sh rev voting => ?_⟩⟩
  · rcases mem_putEntry found with rfl | ⟨stood, _⟩
    · exact voters
    · exact h.holders.voters x stood
  · obtain ⟨stood, _⟩ := (mem_putEntry found).resolve_left fun same => other (same ▸ rfl)
    exact (h.others x stood (id ▸ other)).of_masters rfl rfl
  · exact ⟨own.pairing, own.voters, own.id, own.ready, own.target, own.quarantine⟩
  · exact (distinct _).mp (keys ▸ (distinct _).mpr h.subjects)
  · rcases mem_putEntry found with rfl | ⟨stood, _⟩
    · rw [revision]
      exact h.session.apply e h.member (subject ▸ config)
    · exact h.session.apply x stood config
  · obtain ⟨x, stood, config⟩ := h.session.voting o sh rev voting
    by_cases same : x.id = e'.id
    · exact ⟨e', stands, (known x stood same).symm.trans config⟩
    · exact ⟨x, List.mem_map.mpr ⟨x, stood, if_neg same⟩, config⟩

/-- When the entry is below its count, or READY, the whole table is lawful. -/
theorem decided (h : Counting e s) (count : e.state = .voting → e.count < e.required.toNat) : DecisionInv s := by
  refine (DecisionCore.mk h.lines h.holders (fun x found => ?_) h.subjects h.counter h.unquarantined).inv h.session
  by_cases same : x.id = e.id
  · rw [eq_of_pairwise_ne h.lines.ids found h.member same]
    exact h.own.law count
  · exact h.others x found same

/-- Without the entry the rest is lawful. -/
theorem dropped (h : Counting e s) : DecisionCore (s.dropEntry e.id) := by
  have kept : TableKept s (s.dropEntry e.id) := ⟨rfl, List.filter_sublist.map _⟩
  refine ⟨h.lines.of_table kept, ⟨h.holders.assertions, h.holders.owners, fun x left => ?_, h.holders.session⟩,
    fun x left => ?_, h.subjects.sublist List.filter_sublist, h.counter, h.unquarantined⟩
  · exact h.holders.voters x (List.mem_of_mem_filter left)
  · obtain ⟨stood, other⟩ := List.mem_filter.mp left
    exact (h.others x stood (of_decide_eq_true other)).of_masters rfl rfl

theorem dropped_table (h : Counting e s) :
    (s.dropEntry e.id).table = s.table.filter fun x => x.subject ≠ e.subject :=
  filter_id_eq_filter_subject h.subjects h.lines.ids h.member

/-- Without an entry that is no APPLY entry the session laws stay (R109). -/
theorem dropped_inv (h : Counting e s) (other : e.subject ≠ .config) : DecisionInv (s.dropEntry e.id) := by
  refine h.dropped.inv ⟨fun x left => h.session.apply x (List.mem_of_mem_filter left), fun o sh rev voting => ?_⟩
  obtain ⟨x, stood, config⟩ := h.session.voting o sh rev voting
  refine ⟨x, ?_, config⟩
  rw [h.dropped_table]
  exact List.mem_filter.mpr ⟨stood, by simpa [config] using Ne.symm other⟩

end Counting

/-! ### Carrying (R38 to R42) -/

/-- Where an entry leaves, states alike in the rest are alike. -/
theorem Alike.endEntry {e : Entry} {s t : State} (alike : Alike s t) (out : EntryOutcome)
    (stays : e.subject ≠ .config) : Alike (s.dropEntry e.id) (Machine.endEntry e out t) := by
  obtain ⟨marks, holding, hold, table, session, counter⟩ := alike
  have ended := endEntry_session t e out
  rw [if_neg fun due => stays due.1] at ended
  have frame := endEntry_frame t e out
  refine ⟨fun m => ?_, fun n => ?_, ?_, ?_, ended.trans session, ?_⟩
  · rw [frame]; exact marks m
  · rw [frame]; exact holding n
  · rw [frame]; exact hold
  · rw [endEntry_table, table]; rfl
  · rw [frame]; exact counter

/-- The entry that leaves makes no difference to a removal, when it is no APPLY entry (R96). -/
theorem MasterRemoved.dropEntry {m : MasterId} {s t : State} (removed : MasterRemoved m s t) {id : Byte}
    (other : ∀ x ∈ s.table, x.id = id → x.subject ≠ .config) :
    MasterRemoved m (s.dropEntry id) (t.dropEntry id) where
  frame := by
    rw [removed.frame]; rfl
  line := removed.line
  table := by
    have ids : (fun x : Entry => decide (x.id ≠ id)) ∘ unvoted m = fun x => decide (x.id ≠ id) :=
      funext fun x => by rw [Function.comp, (unvoted_fields m x).1]
    show t.table.filter (fun x => x.id ≠ id) = _
    rw [removed.table, List.filter_comm, List.filter_map, ids, outsideSession, List.filter_comm]
    rfl
  session := by
    have same : (∃ e ∈ (s.dropEntry id).table, e.subject = .config ∧ e.voters = onlyBit m.val) ↔
        ∃ e ∈ s.table, e.subject = .config ∧ e.voters = onlyBit m.val := by
      refine exists_congr fun e => and_congr_left fun ⟨config, _⟩ => ?_
      rw [State.dropEntry, State.setTable_table, List.mem_filter, decide_eq_true_iff]
      exact and_iff_left_of_imp fun stood same => other e stood same config
    show t.session = _
    rw [removed.session]
    simp only [sessionWithout, same]
    rfl

end Sys2Proof.Machine
end

section
/-! PROOFS. The decision laws where an entry is carried (R38 to R42) and where the requests of chapter 2 reach the
table (R29 to R32, R36). -/

namespace Sys2Proof.Machine

open Sys2Proof

/-! ### The apply as a whole (R119) -/

/-- An apply writes the configuration, the lines, the entries, the session, the ports and the status records. -/
theorem applyConfig_frame (sh : Configuration) (rev : W16) (s : State) :
    applyConfig sh rev s = { s with
      config := sh, generation := s.generation + 1#16, session := .none,
      lines := (applyConfig sh rev s).lines, table := (applyConfig sh rev s).table,
      ports := (applyConfig sh rev s).ports, status := (applyConfig sh rev s).status } := by
  rw [applyConfig_eq]
  dsimp only
  rw [switchPorts_frame, foldl_applyLine_frame]
  rfl

theorem applyLine_table_sublist (old new : Configuration) (s : State) (n : LineId) :
    (applyLine old new s n).table.Sublist s.table := by
  unfold applyLine
  split
  · exact .refl _
  · have cleared (x : State) : (cancelOn (.line n) x).table.Sublist x.table := by
      unfold cancelOn
      split
      · exact .refl _
      · rw [endEntry_table]; exact List.filter_sublist
    refine (cleared _).trans ?_
    rw [lineClear_frame]
    exact .refl _

theorem applyConfig_table_sublist (sh : Configuration) (rev : W16) (s : State) :
    (applyConfig sh rev s).table.Sublist s.table := by
  have fold (ns : List LineId) (x : State) : (ns.foldl (applyLine s.config sh) x).table.Sublist x.table := by
    induction ns generalizing x with
    | nil => exact .refl _
    | cons n ns ih => exact (ih _).trans (applyLine_table_sublist _ _ x n)
  have lined := fold allLines { s with generation := s.generation + 1#16, config := sh }
  rw [applyConfig_eq]
  dsimp only
  rw [switchPorts_frame]
  exact lined

/-! ### Pairings (R22) -/

theorem pairing_master {k : MasterId} {act : Action} (pairs : pairing (.master k) act = true) :
    act = .quarantine ∨ act = .reinstate := by
  cases act <;> simp [pairing] at pairs ⊢

theorem pairing_config {act : Action} (pairs : pairing .config act = true) : act = .apply := by
  cases act <;> simp [pairing] at pairs ⊢

theorem pairing_part {act : Action} (pairs : pairing .part act = true) : act = .restart := by
  cases act <;> simp [pairing] at pairs ⊢

theorem pairing_line {n : LineId} {act : Action} (pairs : pairing (.line n) act = true) : act ≠ .restart := by
  rintro rfl
  nomatch pairs

theorem carry_eq {e : Entry} (other : e.action ≠ .restart) (s : State) :
    carry e s = endEntry e .carried (handOff e s) := if_neg other

theorem handOff_quarantine {e : Entry} {k : MasterId} (subject : e.subject = .master k)
    (action : e.action = .quarantine) (s : State) : handOff e s = quarantineMaster k s := by
  unfold handOff; rw [subject, action]

theorem handOff_reinstate {e : Entry} {k : MasterId} (subject : e.subject = .master k)
    (action : e.action = .reinstate) (s : State) : handOff e s = reinstateMaster k s := by
  unfold handOff; rw [subject, action]

theorem handOff_apply {e : Entry} {s : State} {o : MasterId} {sh : Configuration} {rev : W16}
    (subject : e.subject = .config) (action : e.action = .apply) (voting : s.session = .voting o sh rev) :
    handOff e s = applyConfig sh rev s := by
  unfold handOff; rw [subject, action, voting]

theorem carry_restart {e : Entry} (subject : e.subject = .part) (action : e.action = .restart) (s : State) :
    carry e s = commandedRestart s := by
  rw [carry, if_pos action]
  unfold handOff
  rw [subject, action]

theorem carriedLine_holding (now : W32) (e : Entry) (l : Line) :
    (carriedLine now e l).asserted = l.asserted ∧ (carriedLine now e l).owner = l.owner := by
  unfold carriedLine; split <;> exact ⟨rfl, rfl⟩

theorem exists_hasBit_of_ne_zero (v : MasterSet) : v ≠ 0#4 → ∃ m : MasterId, hasBit v m.val = true := by
  revert v; decide

/-! ### Carrying -/

/-- A part in which nobody holds anything and no entry stands is lawful. -/
theorem DecisionInv.of_empty {s : State} (lines : LineInv s) (asserted : ∀ n, (s.line n).asserted = 0#4)
    (owner : ∀ n, (s.line n).owner = none) (table : s.table = []) (session : s.session = .none)
    (counter : s.nextId = 1#8) (free : (s.master 0).quarantined = false) : DecisionInv s := by
  have nobody : ∀ e ∈ s.table, False := by rw [table]; nofun
  refine (DecisionCore.mk lines ⟨fun n m member => ?_, fun n m owned => ?_, fun e found => (nobody e found).elim,
    fun m owned => ?_⟩ (fun e found => (nobody e found).elim) ?_ ?_ ⟨0, free⟩).inv
    (.of_vacant (fun e found => (nobody e found).elim) ?_)
  · simp [asserted, hasBit] at member
  · rw [owner] at owned; nomatch owned
  · rw [session] at owned; nomatch owned
  · rw [table]; exact .nil
  · rw [counter]; decide
  · rw [session]; nofun

/-- A commanded restart leaves nobody anything (R19, R42, R105). -/
theorem DecisionInv.commandedRestart {s : State} (lines : LineInv s) : DecisionInv (commandedRestart s) := by
  refine .of_empty lines.commandedRestart (fun n => ?_) (fun n => ?_) ?_ ?_ ?_ ?_
  · rw [commandedRestart_line]; rfl
  · rw [commandedRestart_line]; rfl
  · rw [commandedRestart_frame]
  · rw [commandedRestart_frame]
  · rw [commandedRestart_frame]
  · rw [commandedRestart_master]; rfl

namespace Counting

variable {e : Entry} {s : State}

theorem tableLaw (h : Counting e s) : TableLaw s where
  subjects := h.subjects
  ids := h.lines.ids
  voters x found := by
    by_cases same : x.id = e.id
    · rw [eq_of_pairwise_ne h.lines.ids found h.member same]; exact h.own.voters
    · exact (h.others x found same).voters
  apply x found config := by
    obtain ⟨o, sh, rev, voting, _⟩ := h.session.apply x found config
    exact ⟨o, sh, rev, voting⟩

/-- No other entry has the subject. -/
theorem subject_ne (h : Counting e s) : ∀ x ∈ (s.dropEntry e.id).table, x.subject ≠ e.subject := by
  intro x left
  rw [h.dropped_table] at left
  exact of_decide_eq_true (List.mem_filter.mp left).2

theorem carry_line (h : Counting e s) {n : LineId} (subject : e.subject = .line n) (lines : LineInv (carry e s)) :
    DecisionInv (carry e s) := by
  have pairs := h.own.pairing
  have other : e.action ≠ .restart := pairing_line (subject ▸ pairs)
  have config : e.subject ≠ .config := by rw [subject]; nofun
  rw [carry_eq other, handOff_line s e n subject pairs] at lines ⊢
  obtain ⟨asserted, owner⟩ := carriedLine_holding s.count e (s.line n)
  exact (h.dropped_inv config).alike lines ((lineClaim_alike s n .proposal asserted owner).endEntry .carried config)

theorem carry_quarantine (h : Counting e s) {k : MasterId} (subject : e.subject = .master k)
    (action : e.action = .quarantine) (lines : LineInv (carry e s)) : DecisionInv (carry e s) := by
  have config : e.subject ≠ .config := by rw [subject]; nofun
  have marked := h.lines.setMaster k { s.master k with quarantined := true }
  obtain ⟨removed, masters, _⟩ := removalFanOut_removed marked (h.tableLaw.setMaster k _) k .quarantine
  have fanned := marked.removalFanOut k .quarantine
  have unquarantined : ∃ m, (((s.dropEntry e.id).setMaster k { s.master k with quarantined := true }).master
      m).quarantined = false := by
    obtain ⟨m, voter⟩ := exists_hasBit_of_ne_zero e.voters h.own.voters
    have eligible := h.holders.voters e h.member m voter
    have other : m ≠ k := by
      rintro rfl
      exact nomatch voter.symm.trans (h.own.target m subject)
    refine ⟨m, ?_⟩
    rw [State.setMaster_master, if_neg other]
    simp only [State.eligible, Bool.and_eq_true, Bool.not_eq_true'] at eligible
    exact eligible.2
  rw [carry_eq (by rw [action]; nofun), handOff_quarantine subject action] at lines ⊢
  unfold quarantineMaster raiseMasterChanged at lines ⊢
  dsimp only at lines ⊢
  generalize removalFanOut k .quarantine _ = y at removed masters fanned lines ⊢
  have dropped : MasterRemoved k ((s.dropEntry e.id).setMaster k { s.master k with quarantined := true })
      (y.dropEntry e.id) :=
    removed.dropEntry fun x found same => by
      rw [h.knows x found same]
      exact config
  have kept := (h.dropped_inv config).removed k { s.master k with quarantined := true }
    (fun x left on => absurd (on.trans subject.symm) (h.subject_ne x left)) unquarantined dropped masters
    (fanned.of_table ⟨rfl, List.filter_sublist.map _⟩)
  exact kept.alike lines (((setFlag_alike k _ y).trans (raise_alike _ _)).endEntry .carried config)

theorem carry_reinstate (h : Counting e s) {k : MasterId} (subject : e.subject = .master k)
    (action : e.action = .reinstate) (lines : LineInv (carry e s)) : DecisionInv (carry e s) := by
  have config : e.subject ≠ .config := by rw [subject]; nofun
  rw [carry_eq (by rw [action]; nofun), handOff_reinstate subject action] at lines ⊢
  have rest := h.dropped_inv config
  have master (m : MasterId) : ((s.setMaster k { s.master k with quarantined := false }).dropEntry e.id).master m =
      if m = k then { s.master k with quarantined := false } else s.master m := State.setMaster_master s k m _
  have cleared : DecisionInv ((s.setMaster k { s.master k with quarantined := false }).dropEntry e.id) := by
    refine (rest.core.shrink (t := (s.setMaster k { s.master k with quarantined := false }).dropEntry e.id)
      ?_ rfl (fun m eligible => ?_) rest.holders.assertions rest.holders.owners
      rest.holders.session (.refl _) (fun x left m on => ?_) rfl ⟨k, ?_⟩).inv (rest.sessionLaw.congr rfl rfl)
    · exact rest.lines.setMaster k _
    · rw [State.eligible, master]
      split
      next same =>
        rw [same] at eligible
        simp only [State.eligible, Bool.and_eq_true, decide_eq_true_iff] at eligible
        have present : (s.master k).presence = .present := eligible.1
        simpa using present
      · exact eligible
    · rw [master, if_neg]
      · rfl
      · rintro rfl
        exact h.subject_ne x left (on.trans subject.symm)
    · rw [master, if_pos rfl]
  exact cleared.alike lines ((raise_alike _ _).endEntry .carried config)

theorem carry_apply (h : Counting e s) (subject : e.subject = .config) (action : e.action = .apply)
    (lines : LineInv (carry e s)) : DecisionInv (carry e s) := by
  obtain ⟨o, sh, rev, voting, _⟩ := h.session.apply e h.member subject
  rw [carry_eq (by rw [action]; nofun), handOff_apply subject action voting] at lines ⊢
  have frame := applyConfig_frame sh rev s
  have line := applyConfig_line sh rev s
  have sublist := applyConfig_table_sublist sh rev s
  generalize applyConfig sh rev s = x at frame line sublist lines ⊢
  have ended := endEntry_frame x e .carried
  have table := endEntry_table x e .carried
  have session := endEntry_session x e .carried
  rw [if_neg (by simp), show x.session = .none by rw [frame]] at session
  generalize endEntry e .carried x = t at ended table session lines ⊢
  have masters (m : MasterId) : t.master m = s.master m := by rw [ended, frame]; rfl
  have lined (n : LineId) : t.line n =
      if s.config.line n = sh.line n then s.line n else appliedLine s.count (sh.line n) := by
    rw [← line, ended]; rfl
  have left : t.table.Sublist (s.dropEntry e.id).table := by rw [table]; exact sublist.filter _
  refine (h.dropped.shrink lines ?_ (fun m eligible => ?_) (fun n m member => ?_) (fun n m owner => ?_) ?_ left
    (fun x _ m _ => by rw [masters]; rfl) ?_ ?_).inv (.of_vacant (fun x found => ?_) ?_)
  · rw [ended, frame]; rfl
  · rw [State.eligible, masters]; exact eligible
  · rw [lined] at member
    split at member
    · exact h.holders.assertions n m member
    · simp [appliedLine, hasBit] at member
  · rw [lined] at owner
    split at owner
    · exact h.holders.owners n m owner
    · nomatch owner
  · rw [session]; nofun
  · rw [ended, frame]; rfl
  · simpa only [masters] using h.unquarantined
  · rw [← subject]; exact h.subject_ne x (left.subset found)
  · rw [session]; nofun

/-- Carrying the entry that has reached its count leaves a lawful table (R38 to R42). -/
theorem carry (h : Counting e s) (due : s.held = false ∨ e.activates = false) : DecisionInv (carry e s) := by
  have lines := h.lines.carry (h.lines.quorum e h.member) due
  have pairs := h.own.pairing
  cases subject : e.subject with
  | line n => exact h.carry_line subject lines
  | master k =>
    rcases pairing_master (subject ▸ pairs) with action | action
    · exact h.carry_quarantine subject action lines
    · exact h.carry_reinstate subject action lines
  | config => exact h.carry_apply subject (pairing_config (subject ▸ pairs)) lines
  | part =>
    rw [carry_restart subject (pairing_part (subject ▸ pairs))]
    exact .commandedRestart h.lines

/-- Counting the votes of the entry leaves a lawful table (R29 step 3, R30, R31, R43). -/
theorem countVotes (h : Counting e s) : DecisionInv (countVotes e s).1 := by
  unfold Machine.countVotes
  split
  next ready => exact h.decided fun voting => nomatch ready.symm.trans voting
  · split
    next below => exact h.decided fun _ => below
    · split
      next kept =>
        rw [Bool.and_eq_true, State.held_iff] at kept
        have own : EntryBase s { e with state := .ready } :=
          ⟨h.own.pairing, h.own.voters, h.own.id, fun _ => kept, h.own.target, h.own.quarantine⟩
        exact (h.replace (e' := { e with state := .ready }) rfl rfl rfl own (h.holders.voters e h.member)).decided nofun
      next due =>
        refine h.carry ?_
        rwa [Bool.not_eq_true, Bool.and_eq_false_iff] at due

end Counting

/-! ### Entries that open, votes that are given and taken back -/

theorem State.eligible_iff (s : State) (m : MasterId) :
    s.eligible m = true ↔ (s.master m).presence = .present ∧ (s.master m).quarantined = false := by
  simp [State.eligible]

/-- A MASTER proposal never concerns its requester (R27). -/
theorem proposalValid_master {s : State} {m k : MasterId} {act : Action} {arg : W16}
    (valid : proposalValid s m act arg (.master k)) (pairs : pairing (.master k) act = true)
    (free : (s.master m).quarantined = false) :
    k ≠ m ∧ ((s.master k).quarantined = true ↔ act = .reinstate) := by
  obtain ⟨quarantine, reinstate⟩ := valid
  rcases pairing_master pairs with rfl | rfl
  · obtain ⟨other, unmarked⟩ := quarantine rfl
    exact ⟨other, iff_of_false (by rw [unmarked]; nofun) nofun⟩
  · have marked := reinstate rfl
    refine ⟨?_, iff_of_true marked rfl⟩
    rintro rfl
    exact nomatch free.symm.trans marked

section

variable {s : State} {m : MasterId} (eligible : s.eligible m = true)

include eligible

/-- An entry that opens on a free subject stands in a lawful table, its votes to be counted (R29). -/
theorem DecisionCore.opened (h : DecisionCore s) {sub : Subject} {act : Action} (dur rev : Option W16)
    (pairs : pairing sub act = true)
    (valid : ∀ k, sub = .master k → k ≠ m ∧ ((s.master k).quarantined = true ↔ act = .reinstate))
    (vacant : ∀ x ∈ s.table, x.subject ≠ sub) (room : s.table.length < 12)
    (policy : ∀ n, sub = .line n → (s.line n).cfg.policy = .quorum)
    (law : SessionLaw (openEntry (s.newEntry m sub act dur rev) s)) :
    Counting (s.newEntry m sub act dur rev) (openEntry (s.newEntry m sub act dur rev) s) := by
  have free := State.freeId_free (Nat.le_of_lt_succ room)
  have split {x : Entry} (found : x ∈ (openEntry (s.newEntry m sub act dur rev) s).table) :
      x ∈ s.table ∨ x = s.newEntry m sub act dur rev := by
    rcases List.mem_append.mp found with old | new
    · exact .inl old
    · exact .inr (List.mem_singleton.mp new)
  refine ⟨List.mem_append_right _ (List.mem_singleton_self _),
    h.lines.openEntry room free fun n on => ⟨policy n on, on ▸ vacant⟩,
    ⟨h.holders.assertions, h.holders.owners, fun x found k voter => ?_, h.holders.session⟩,
    fun x found other => ?_, ?_, ?_, nextIdAfter_ne_zero _, h.unquarantined, law⟩
  · rcases split found with old | rfl
    · exact h.holders.voters x old k voter
    · have same : k = m := by simpa [State.newEntry, hasBit_onlyBit] using voter
      exact same ▸ eligible
  · rcases split found with old | rfl
    · exact (h.entries x old).of_masters rfl rfl
    · exact absurd rfl other
  · refine ⟨pairs, ?_, State.freeId_ne_zero (Nat.le_of_lt_succ room) h.counter, nofun, fun k on => ?_,
      fun k on => (valid k on).2⟩
    · exact ne_zero_of_hasBit (m := m) (by simp [State.newEntry, hasBit_onlyBit])
    · simpa [State.newEntry, hasBit_onlyBit] using (valid k on).1
  · exact List.pairwise_append.mpr ⟨h.subjects, List.pairwise_singleton _ _, fun x old y new =>
      (List.mem_singleton.mp new) ▸ vacant x old⟩

/-- A proposal opens an entry (R29). -/
theorem DecisionInv.openEntry (h : DecisionInv s) {sub : Subject} {act : Action} {arg : W16} (dur : Option W16)
    (pairs : pairing sub act = true) (valid : proposalValid s m act arg sub)
    (vacant : ∀ x ∈ s.table, x.subject ≠ sub) (room : s.table.length < 12) :
    Counting (s.newEntry m sub act dur none) (openEntry (s.newEntry m sub act dur none) s) := by
  have free := ((s.eligible_iff m).mp eligible).2
  have config : sub ≠ .config := by rintro rfl; exact valid
  refine h.core.opened eligible dur none pairs (fun k on => ?_) vacant room (fun n on => ?_)
    ⟨fun x found on => ?_, fun o sh rev voting => ?_⟩
  · subst on; exact proposalValid_master valid pairs free
  · subst on; exact valid.1
  · rcases List.mem_append.mp found with old | new
    · exact h.apply x old on
    · rw [List.mem_singleton.mp new] at on
      exact absurd on config
  · obtain ⟨x, found, on⟩ := h.voting o sh rev voting
    exact ⟨x, List.mem_append_left _ found, on⟩

theorem DecisionInv.openAndCount (h : DecisionInv s) {sub : Subject} {act : Action} {arg : W16} (dur : Option W16)
    (pairs : pairing sub act = true) (valid : proposalValid s m act arg sub)
    (vacant : ∀ x ∈ s.table, x.subject ≠ sub) (room : s.table.length < 12) :
    DecisionInv (openAndCount m sub act dur none s).1 :=
  (h.openEntry eligible dur pairs valid vacant room).countVotes

/-- COMMIT_CONFIG opens the APPLY entry (R116). -/
theorem DecisionInv.commitEntry (h : DecisionInv s) {sh : Configuration} {rev : W16} {d : Deadline}
    (editing : s.session = .editing m sh rev d) (room : s.table.length < 12) :
    Counting ((s.setSession (.voting m sh rev)).newEntry m .config .apply none (some rev))
      (Machine.openEntry ((s.setSession (.voting m sh rev)).newEntry m .config .apply none (some rev))
        (s.setSession (.voting m sh rev))) := by
  have vacant : ∀ x ∈ s.table, x.subject ≠ .config := by
    intro x found config
    obtain ⟨o, sh', rev', voting, _⟩ := h.apply x found config
    exact nomatch editing.symm.trans voting
  have frozen : DecisionCore (s.setSession (.voting m sh rev)) :=
    h.core.of_table rfl (.refl _) fun k owner => by rw [editing]; exact owner
  refine frozen.opened (s := s.setSession (.voting m sh rev)) (sub := .config) (act := .apply) eligible none
    (some rev) rfl (fun _ on => nomatch on) vacant room (fun _ on => nomatch on)
    ⟨fun x found on => ⟨m, sh, rev, rfl, ?_⟩, fun _ _ _ _ => ?_⟩
  · rcases List.mem_append.mp found with old | new
    · exact absurd on (vacant x old)
    · rw [List.mem_singleton.mp new]; rfl
  · exact ⟨_, List.mem_append_right _ (List.mem_singleton_self _), rfl⟩

theorem DecisionInv.commit (h : DecisionInv s) {sh : Configuration} {rev : W16} {d : Deadline}
    (editing : s.session = .editing m sh rev d) (room : s.table.length < 12) :
    DecisionInv (Machine.openAndCount m .config .apply none (some rev) (s.setSession (.voting m sh rev))).1 :=
  (h.commitEntry eligible editing room).countVotes

/-- A vote is added, and is then counted (R30). -/
theorem DecisionInv.voteEntry (h : DecisionInv s) {e : Entry} (member : e ∈ s.table)
    (target : ∀ k, e.subject = .master k → k ≠ m) :
    Counting (withVote m e) (s.putEntry (withVote m e)) := by
  have law := h.entries e member
  have own : EntryBase s (withVote m e) := by
    refine ⟨law.pairing, ?_, law.id, law.ready, fun k on => ?_, law.quarantine⟩
    · exact ne_zero_of_hasBit (m := m) (by simp [withVote, hasBit_addBit])
    · simp [withVote, hasBit_addBit, law.target k on, target k on]
  refine (h.counting member).replace (e' := withVote m e) rfl rfl rfl own fun k voter => ?_
  rw [withVote, hasBit_addBit, Bool.or_eq_true, decide_eq_true_iff] at voter
  rcases voter with old | rfl
  · exact h.holders.voters e member k old
  · exact eligible

theorem DecisionInv.vote (h : DecisionInv s) {e : Entry} (member : e ∈ s.table)
    (target : ∀ k, e.subject = .master k → k ≠ m) :
    DecisionInv (Machine.countVotes (withVote m e) (s.putEntry (withVote m e))).1 :=
  (h.voteEntry eligible member target).countVotes

end

/-- A vote is taken back (R36). -/
theorem DecisionInv.takeVote {s : State} (h : DecisionInv s) {e : Entry} (member : e ∈ s.table) {m : MasterId}
    (voter : hasBit e.voters m.val = true) : DecisionInv (takeVote m e s) := by
  rw [takeVote_eq voter]
  split
  · exact h.endEntry (e := { e with voters := 0#4 }) member rfl rfl fun _ => .inr rfl
  next others =>
    have law := h.entries e member
    have stays := (unvoted_voters_ne_zero m law.voters).mpr others
    obtain ⟨id, subject, _, revision, _⟩ := unvoted_fields m e
    have kept : EntryLaw s (Machine.unvoted m e) := law.unvoted m stays rfl fun _ _ => rfl
    refine ((h.counting member).replace id subject revision kept.base fun k left => ?_).decided kept.count
    rw [hasBit_unvoted, Bool.and_eq_true] at left
    exact h.holders.voters e member k left.1

end Sys2Proof.Machine
end

section
/-! PROOFS. The HOLD released event (R15, R38, R39, R44): the lines that return, then the READY entries carried in
table order. -/

namespace Sys2Proof.Machine

open Sys2Proof

/-! ### The lines that return (R15 step 1) -/

theorem opposite_ne (l : Level) : opposite l ≠ l := by cases l <;> nofun

/-- A line drives its active level when it is commanded ACTIVE, HOLD is released and its policy is not FIXED (R5). -/
theorem drivenLevel_active {l : Line} (policy : l.cfg.policy ≠ .fixed) (active : l.commanded = .active) :
    drivenLevel .released l = opposite l.cfg.safe := if_pos ⟨rfl, policy, active⟩

/-- The part under the released level, no line reported yet (R15). -/
def unheld (s : State) : State := setQualified .released s

/-- The part after step 1 of R15. -/
def returnedPart (s : State) : State := reportChanges s.driven .hold allLines (unheld s)

theorem holdReleasedEvent_eq (s : State) :
    holdReleasedEvent s = raise (.holdChanged .released) (carryAllReady (returnedPart s)) := rfl

section

variable {s : State} (held : s.hold.qualified = .asserted)

include held

theorem unheld_driven (n : LineId) :
    (unheld s).driven n = if returns s n then opposite (s.line n).cfg.safe else s.driven n := by
  have before : s.driven n = (s.line n).cfg.safe := by rw [State.driven_eq, held, drivenLevel_held]
  show drivenLevel .released (s.line n) = _
  rw [before]
  unfold drivenLevel returns
  simp only [true_and]

theorem unheld_moves_iff (n : LineId) : (unheld s).driven n ≠ s.driven n ↔ returns s n := by
  rw [unheld_driven held]
  by_cases back : returns s n
  · rw [if_pos back, State.driven_eq, held, drivenLevel_held]
    exact iff_of_true (opposite_ne _) back
  · rw [if_neg back]
    exact iff_of_false (not_not.mpr rfl) back

/-- A line that returns settles (R15 step 1, R76). -/
theorem returnedPart_line (n : LineId) :
    (returnedPart s).line n = if returns s n then settling s.count (s.line n) else s.line n := by
  rw [returnedPart, reportChanges_line]
  simp only [mem_allLines, true_and, unheld_moves_iff held]
  rfl

/-- The lines that return are reported in ascending order (R15 step 1). -/
theorem returnedPart_told :
    Told ((allLines.filter fun n => returns s n).map
      fun n => .lineChanged n (opposite (s.line n).cfg.safe) .active .hold) unmarked s (returnedPart s) := by
  have reported : changeNotices (unheld s) s.driven .hold allLines =
      (allLines.filter fun n => returns s n).map
        fun n => .lineChanged n (opposite (s.line n).cfg.safe) .active .hold := by
    unfold changeNotices
    simp only [unheld_moves_iff held]
    refine List.map_congr_left fun n member => ?_
    have back : returns s n := of_decide_eq_true (List.mem_filter.mp member).2
    rw [unheld_driven held, if_pos back]
    exact congrArg (Notice.lineChanged n _ · .hold) back.2
  have masters : (returnedPart s).masters = s.masters := by
    rw [returnedPart, reportChanges_masters]
    rfl
  refine .of_stat masters fun m => ?_
  rw [returnedPart, reportChanges_stat, reported]
  exact told_congr (s := s) rfl m _ _

end

theorem returnedPart_frame (s : State) :
    returnedPart s = { s with
      hold := { s.hold with qualified := .released, measuring := none },
      lines := (returnedPart s).lines, status := (returnedPart s).status } := by
  have frame := reportChanges_frame s.driven .hold allLines (unheld s)
  unfold returnedPart
  generalize reportChanges s.driven .hold allLines (unheld s) = x at frame ⊢
  rw [frame]
  rfl

/-! ### Carrying the READY entries (R15 step 2, R44) -/

/-- A table without READY entries is left as it is. -/
theorem carryAllReady_of_none {s : State} (none : ∀ e ∈ s.table, e.state ≠ .ready) : carryAllReady s = s := by
  unfold carryAllReady
  generalize s.table.map (fun e => e.id) = ids
  induction ids with
  | nil => rfl
  | cons id ids ih =>
    have same : carryReady s id = s := by
      unfold carryReady
      split
      next e found => exact if_neg (none e (mem_of_entryById found).1)
      · rfl
    rw [List.foldl_cons, same, ih]

/-- A line that a READY entry commands ACTIVE: a line that was RELEASED settles (R7, R39, R76). -/
def carriedRecord (now : W32) (e : Entry) (l : Line) : Line :=
  if l.commanded = .active then carriedLine now e l else settling now (carriedLine now e l)

/-- A READY entry activates a line of a policy other than FIXED (R26, R43). -/
structure ReadyFor (s : State) (e : Entry) (n : LineId) : Prop where
  subject : e.subject = .line n
  action : e.action = .assert ∨ e.action = .pulse
  policy : (s.line n).cfg.policy ≠ .fixed

theorem ReadyFor.carried {s : State} {e : Entry} {n : LineId} (ready : ReadyFor s e n) (now : W32) (l : Line) :
    (carriedLine now e l).commanded = .active ∧ (carriedLine now e l).cfg = l.cfg := by
  unfold carriedLine
  rcases ready.action with action | action <;> rw [action] <;> exact ⟨rfl, rfl⟩

/-- A READY entry is carried while HOLD is released: its line is commanded ACTIVE, and reported when it was RELEASED;
then the entry leaves (R38, R39). -/
theorem carry_ready {s : State} {e : Entry} {n : LineId} (ready : ReadyFor s e n)
    (released : s.hold.qualified = .released) :
    carry e s = { s with
      lines := (carry e s).lines, table := s.table.filter (fun x => x.id ≠ e.id), status := (carry e s).status } ∧
    (∀ k, (carry e s).line k = if k = n then carriedRecord s.count e (s.line n) else s.line k) ∧
    Told (readyNotices s e) unmarked s (carry e s) := by
  have pairs : pairing e.subject e.action = true := by
    rw [ready.subject]
    rcases ready.action with action | action <;> rw [action] <;> rfl
  have config : e.subject ≠ .config := by rw [ready.subject]; nofun
  rw [carry_eq (pairing_line (ready.subject ▸ pairs)), handOff_line s e n ready.subject pairs]
  have taken := lineClaim_taken s n .proposal (carriedLine s.count e)
  generalize lineClaim n .proposal (carriedLine s.count e) s = x at taken ⊢
  have ended := endEntry_ends x e .carried config
  obtain ⟨active, cfg⟩ := ready.carried s.count (s.line n)
  have after : drivenLevel s.hold.qualified (carriedLine s.count e (s.line n)) = opposite (s.line n).cfg.safe := by
    rw [released, drivenLevel_active (cfg ▸ ready.policy) active, cfg]
  have still : opposite (s.line n).cfg.safe = s.driven n ↔ (s.line n).commanded = .active := by
    rw [State.driven_eq, released]
    cases before : (s.line n).commanded with
    | active => rw [drivenLevel_active ready.policy before]; exact iff_of_true rfl rfl
    | released => rw [drivenLevel_released _ _ before]; exact iff_of_false (opposite_ne _) nofun
  refine ⟨?_, fun k => ?_, ?_⟩
  · have table : x.table = s.table := by rw [taken.frame]
    rw [ended.frame, table, taken.frame]
  · have same : (endEntry e .carried x).line k = x.line k := by rw [ended.frame]; rfl
    rw [same]
    by_cases here : k = n
    · subst here
      rw [taken.line, if_pos rfl, after, carriedRecord]
      simp only [still]
      rfl
    · rw [if_neg here, taken.others k here]
  · refine (taken.told.trans_unmarked ended.told).congr ?_ fun _ => rfl
    rw [after, active, readyNotices, ready.subject]
    simp only [still]

theorem find_append_cons {before after : List Entry} {e : Entry}
    (ids : (before ++ e :: after).Pairwise fun a b => a.id ≠ b.id) :
    (before ++ e :: after).find? (fun x => x.id = e.id) = some e := by
  obtain ⟨_, _, apart⟩ := List.pairwise_append.mp ids
  rw [List.find?_append, List.find?_eq_none.mpr fun x member => ?_]
  · simp
  · simpa using apart x member e List.mem_cons_self

/-- The READY entry on a line among some entries. -/
def readyIn (l : List Entry) (n : LineId) : Option Entry := l.find? fun e => e.subject = .line n ∧ e.state = .ready

theorem readyIn_cons (e : Entry) (l : List Entry) (n : LineId) :
    readyIn (e :: l) n = if e.subject = .line n ∧ e.state = .ready then some e else readyIn l n := by
  unfold readyIn
  rw [List.find?_cons]
  by_cases here : e.subject = .line n ∧ e.state = .ready <;> simp [here]

/-- The READY entries behind those already handled are carried one after another (R44). -/
theorem foldl_carryReady (after : List Entry) {s : State} {before : List Entry} (table : s.table = before ++ after)
    (ids : s.table.Pairwise fun a b => a.id ≠ b.id) (subjects : after.Pairwise fun a b => a.subject ≠ b.subject)
    (released : s.hold.qualified = .released) (ready : ∀ e ∈ after, e.state = .ready → ∃ n, ReadyFor s e n) :
    (after.map Entry.id).foldl carryReady s = { s with
      lines := ((after.map Entry.id).foldl carryReady s).lines,
      table := before ++ after.filter (fun e => e.state ≠ .ready),
      status := ((after.map Entry.id).foldl carryReady s).status } ∧
    (∀ n, ((after.map Entry.id).foldl carryReady s).line n =
      match readyIn after n with
      | none => s.line n
      | some e => carriedRecord s.count e (s.line n)) ∧
    Told ((after.filter fun e => e.state = .ready).map (readyNotices s)).flatten unmarked s
      ((after.map Entry.id).foldl carryReady s) := by
  induction after generalizing s before with
  | nil =>
    simp only [List.append_nil] at table
    simp only [List.map_nil, List.foldl_nil, List.filter_nil, List.append_nil, ← table]
    exact ⟨trivial, fun n => rfl, .refl s⟩
  | cons e after ih =>
    obtain ⟨first, subjects⟩ := List.pairwise_cons.mp subjects
    have found : s.entryById e.id = some e := by
      rw [State.entryById, table]
      exact find_append_cons (table ▸ ids)
    rw [List.map_cons, List.foldl_cons, carryReady, found]
    dsimp only
    by_cases due : e.state = .ready
    · obtain ⟨k, readyFor⟩ := ready e List.mem_cons_self due
      obtain ⟨frame, line, told⟩ := carry_ready readyFor released
      rw [if_pos due]
      generalize carry e s = x at frame line told ⊢
      have table' : x.table = before ++ after := by
        rw [frame, table]
        exact filter_append_cons (table ▸ ids)
      have count : x.count = s.count := by rw [frame]
      have untouched {n : LineId} (other : n ≠ k) : x.line n = s.line n := by rw [line, if_neg other]
      have later {y : Entry} (member : y ∈ after) {n : LineId} (on : y.subject = .line n) : n ≠ k := by
        rintro rfl
        exact first y member (readyFor.subject.trans on.symm)
      obtain ⟨frame', line', told'⟩ := ih table' (by
          rw [table']
          exact (table ▸ ids).sublist ((List.Sublist.refl _).append (List.sublist_cons_self _ _)))
        subjects (by rw [frame]; exact released) fun y member yready => by
          obtain ⟨n, yfor⟩ := ready y (List.mem_cons_of_mem e member) yready
          exact ⟨n, yfor.subject, yfor.action, by rw [untouched (later member yfor.subject)]; exact yfor.policy⟩
      have notices : (after.filter fun y => y.state = .ready).map (readyNotices x) =
          (after.filter fun y => y.state = .ready).map (readyNotices s) := by
        refine List.map_congr_left fun y member => ?_
        obtain ⟨stood, yready⟩ := List.mem_filter.mp member
        obtain ⟨n, yfor⟩ := ready y (List.mem_cons_of_mem e stood) (of_decide_eq_true yready)
        simp only [readyNotices, yfor.subject, untouched (later stood yfor.subject)]
      refine ⟨?_, fun n => ?_, (told.trans_unmarked (notices ▸ told')).congr ?_ fun _ => rfl⟩
      · rw [frame', frame, List.filter_cons_of_neg (by simp [due])]
      · rw [line', readyIn_cons, readyFor.subject, count]
        by_cases here : n = k
        · subst here
          have none : readyIn after n = none :=
            List.find?_eq_none.mpr fun y member => by
              simp only [decide_eq_true_iff, not_and]
              exact fun on => absurd rfl (later member on)
          rw [none, if_pos ⟨rfl, due⟩]
          dsimp only
          rw [line, if_pos rfl]
        · rw [untouched here, if_neg fun ⟨same, _⟩ => here (Subject.line.inj same).symm]
      · rw [List.filter_cons_of_pos (by simp [due]), List.map_cons, List.flatten_cons]
    · have passed := ih (s := s) (before := before ++ [e]) (by rw [table, List.append_assoc]; rfl) ids subjects released
        fun x member => ready x (List.mem_cons_of_mem e member)
      rw [if_neg due]
      simpa only [List.filter_cons, due, ne_eq, not_false_eq_true, decide_true, decide_false, if_true, if_false,
        readyIn_cons, and_false, List.append_assoc, List.singleton_append, Bool.false_eq_true] using passed

/-! ### The whole event (R15) -/

/-- The event is due when the raw input stands released and the qualified level is asserted (R11). -/
theorem exec_holdReleased (s : State) (running : s.rstn = .high) (raw : s.hold.raw = .low)
    (qualified : s.hold.qualified = .asserted) : exec .holdReleased s = .next (holdReleasedEvent s) := by
  show Host.Outcome.next (whenRunning _ s) = _
  simp only [whenRunning, running, raw, qualified, and_self, if_true]

/-- Settles O19: without READY entries the event ends with the lines that return. -/
theorem holdReleasedReturnsTheLines : Obligations.HoldReleasedReturnsTheLines := by
  intro s running raw held none
  have frame := returnedPart_frame s
  have nobody : carryAllReady (returnedPart s) = returnedPart s := by
    refine carryAllReady_of_none ?_
    rw [frame]
    exact none
  refine ⟨holdReleasedEvent s, exec_holdReleased s running raw held, ?frame, ?line, ?status⟩ <;>
    rw [holdReleasedEvent_eq, nobody]
  case frame =>
    rw [← raw]
    generalize returnedPart s = x at frame ⊢
    rw [frame]
    rfl
  case line =>
    intro n
    rw [raise_line]
    exact returnedPart_line held n
  case status =>
    intro m
    have told := returnedPart_told held
    rw [raise_noticed, told.stat, StatusRecord.mark_zero, noticed_congr told.presence]
    rfl

/-- READY entries are ASSERT and PULSE entries on QUORUM lines (R26, R43). -/
theorem DecisionInv.readyFor {s : State} (h : DecisionInv s) {e : Entry} (member : e ∈ s.table)
    (due : e.state = .ready) : ∃ n, ReadyFor s e n := by
  have activates := ((h.entries e member).ready due).2
  obtain ⟨n, subject, action⟩ : ∃ n, e.subject = .line n ∧ (e.action = .assert ∨ e.action = .pulse) := by
    unfold Entry.activates at activates
    split at activates
    next subject action => exact ⟨_, subject, .inl action⟩
    next subject action => exact ⟨_, subject, .inr action⟩
    · nomatch activates
  exact ⟨n, subject, action, by rw [h.lines.quorum e member n subject]; nofun⟩

section

variable {s : State} (h : DecisionInv s) (held : s.hold.qualified = .asserted)

include h held

/-- What the HOLD released event does to a lawful part (R15). -/
theorem holdReleasedEvent_carries :
    holdReleasedEvent s = { s with
      hold := { s.hold with qualified := .released, measuring := none },
      lines := (holdReleasedEvent s).lines, status := (holdReleasedEvent s).status,
      table := s.table.filter (fun e => e.state ≠ .ready) } ∧
    (∀ n, (holdReleasedEvent s).line n = releasedLine s n) ∧
    Told (holdReleaseNotices s) unmarked s (holdReleasedEvent s) := by
  have frame := returnedPart_frame s
  have line := returnedPart_line held
  have told := returnedPart_told held
  rw [holdReleasedEvent_eq, carryAllReady]
  generalize returnedPart s = x at frame line told ⊢
  have table : x.table = s.table := by rw [frame]
  have count : x.count = s.count := by rw [frame]
  have kept (n : LineId) : (x.line n).cfg = (s.line n).cfg ∧ (x.line n).commanded = (s.line n).commanded := by
    rw [line]; split <;> simp
  obtain ⟨frame', line', told'⟩ := foldl_carryReady x.table (s := x) (before := []) rfl (table ▸ h.lines.ids)
    (table ▸ h.subjects) (by rw [frame]) fun e member due => by
      obtain ⟨n, ready⟩ := h.readyFor (table ▸ member) due
      exact ⟨n, ready.subject, ready.action, by rw [(kept n).1]; exact ready.policy⟩
  generalize (x.table.map Entry.id).foldl carryReady x = t at frame' line' told' ⊢
  refine ⟨?_, fun n => ?_, (((told.trans_unmarked told').trans_unmarked (raise_told _ t)).congr ?_ fun _ => rfl)⟩
  · rw [frame', frame]
    rfl
  · rw [raise_line, line', table, count, releasedLine, readyOn, ← readyIn]
    cases readyIn s.table n with
    | none => exact line n
    | some e =>
      dsimp only
      rw [carriedRecord, (kept n).2, line]
      by_cases active : (s.line n).commanded = .active
      · rw [if_pos active, if_pos active]
      · rw [if_neg active, if_neg active, if_neg fun back => active back.2]
  · have notices : readyNotices x = readyNotices s := by
      funext e
      unfold readyNotices
      split <;> simp only [kept]
    rw [notices, table]
    rfl

omit h held in
/-- A released line keeps what no event of HOLD touches (R3). -/
theorem releasedLine_keeps (n : LineId) :
    (releasedLine s n).asserted = (s.line n).asserted ∧ (releasedLine s n).owner = (s.line n).owner ∧
      (releasedLine s n).lease = (s.line n).lease ∧ (releasedLine s n).cfg = (s.line n).cfg := by
  have carried (now : W32) (e : Entry) (l : Line) : (carriedLine now e l).asserted = l.asserted ∧
      (carriedLine now e l).owner = l.owner ∧ (carriedLine now e l).lease = l.lease ∧
      (carriedLine now e l).cfg = l.cfg := by
    unfold carriedLine; split <;> exact ⟨rfl, rfl, rfl, rfl⟩
  unfold releasedLine
  dsimp only
  split
  · split <;> simp
  · split
    · simp only [carried]
      split <;> simp
    · simp [carried]

omit held in
/-- The READY entry on a line is its only entry (R21). -/
theorem readyOn_eq {e : Entry} (member : e ∈ s.table) (due : e.state = .ready) {n : LineId}
    (subject : e.subject = .line n) : readyOn s n = some e := by
  cases found : readyOn s n with
  | none => exact absurd due ((by simpa using List.find?_eq_none.mp found e member :
      e.subject = .line n → ¬e.state = .ready) subject)
  | some x =>
    have on : x.subject = .line n ∧ x.state = .ready := by simpa using List.find?_some found
    rw [eq_of_pairwise_ne h.subjects (List.mem_of_find?_eq_some found) member (on.1.trans subject.symm)]

omit held in
/-- The line of a READY entry is commanded ACTIVE (R15 step 2, R39). -/
theorem releasedLine_of_ready {e : Entry} (member : e ∈ s.table) (due : e.state = .ready) {n : LineId}
    (subject : e.subject = .line n) :
    (releasedLine s n).commanded = .active ∧
      (releasedLine s n).pulse = if e.action = .pulse then some ⟨s.count, e.duration.getD 0#16⟩ else none := by
  obtain ⟨k, ready⟩ := h.readyFor member due
  have carried (l : Line) : (carriedLine s.count e l).commanded = .active ∧ (carriedLine s.count e l).pulse =
      if e.action = .pulse then some ⟨s.count, e.duration.getD 0#16⟩ else none := by
    unfold carriedLine
    rcases ready.action with action | action <;> rw [action] <;> exact ⟨rfl, rfl⟩
  rw [releasedLine, readyOn_eq h member due subject]
  dsimp only
  split <;> simp only [settling_commanded, settling_pulse, carried, and_self]

omit held h in
/-- A line without a READY entry keeps its commanded state and its pulse. -/
theorem releasedLine_of_none {n : LineId} (none : ∀ e ∈ s.table, e.state = .ready → e.subject ≠ .line n) :
    (releasedLine s n).commanded = (s.line n).commanded ∧ (releasedLine s n).pulse = (s.line n).pulse := by
  have nobody : readyOn s n = .none :=
    List.find?_eq_none.mpr fun e member => by
      simp only [decide_eq_true_iff, not_and]
      exact fun on due => none e member due on
  rw [releasedLine, nobody]
  dsimp only
  split <;> simp

end

/-- Settles O20: the event step by step, and what it makes of a line with and without a READY entry. -/
theorem holdReleasedCarriesTheReadyEntries : Obligations.HoldReleasedCarriesTheReadyEntries := by
  intro s running raw held h
  obtain ⟨frame, line, told⟩ := holdReleasedEvent_carries h held
  refine ⟨holdReleasedEvent s, exec_holdReleased s running raw held, raw ▸ frame, line, fun m => ?told, fun n => ?keeps,
    fun e member due n subject => ?ready, fun n none => ?none⟩
  case told => rw [told.stat, StatusRecord.mark_zero]
  case keeps => rw [line]; exact releasedLine_keeps n
  case ready =>
    obtain ⟨active, pulse⟩ := releasedLine_of_ready h member due subject
    obtain ⟨_, _, _, cfg⟩ := releasedLine_keeps (s := s) n
    have policy := h.lines.quorum e member n subject
    have hold : (holdReleasedEvent s).hold.qualified = .released := (congrArg (fun t => t.hold.qualified) frame :)
    rw [State.driven_eq, line, hold]
    refine ⟨active, ?_, pulse⟩
    rw [drivenLevel_active (by rw [cfg, policy]; nofun) active, cfg]
  case none =>
    rw [line]
    exact releasedLine_of_none none

/-- The HOLD released event keeps the decision laws: the READY entries leave, the others are OPEN (R15, R43). -/
theorem DecisionInv.holdReleasedEvent {s : State} (h : DecisionInv s) (held : s.hold.qualified = .asserted) :
    DecisionInv (holdReleasedEvent s) := by
  obtain ⟨frame, line, _⟩ := holdReleasedEvent_carries h held
  have lines := h.lines.holdReleasedEvent
  generalize Machine.holdReleasedEvent s = t at frame line lines ⊢
  have masters (m : MasterId) : t.master m = s.master m := by rw [frame]; rfl
  have eligible (m : MasterId) : t.eligible m = s.eligible m := by rw [State.eligible, masters]; rfl
  have session : t.session = s.session := by rw [frame]
  have table : t.table = s.table.filter (fun e => e.state ≠ .ready) := by rw [frame]
  refine ⟨lines, ⟨fun n m member => ?_, fun n m owner => ?_, fun e left m voter => ?_, fun m owner => ?_⟩,
    fun e left => ?_, ?_, by rw [frame]; exact h.counter, fun e left config => ?_, fun o sh rev voting => ?_, ?_⟩
  · rw [line, (releasedLine_keeps n).1] at member
    rw [eligible]; exact h.holders.assertions n m member
  · rw [line, (releasedLine_keeps n).2.1] at owner
    rw [eligible]; exact h.holders.owners n m owner
  · rw [table] at left
    rw [eligible]; exact h.holders.voters e (List.mem_of_mem_filter left) m voter
  · rw [eligible]; exact h.holders.session m (session ▸ owner)
  · rw [table] at left
    obtain ⟨stood, opened⟩ := List.mem_filter.mp left
    have law := h.entries e stood
    exact ⟨law.pairing, law.voters, law.id, law.count, fun due => absurd due (of_decide_eq_true opened), law.target,
      fun m on => masters m ▸ law.quarantine m on⟩
  · rw [table]; exact h.subjects.sublist List.filter_sublist
  · rw [table] at left
    rw [session]; exact h.apply e (List.mem_of_mem_filter left) config
  · obtain ⟨e, stood, config⟩ := h.voting o sh rev (session ▸ voting)
    refine ⟨e, ?_, config⟩
    rw [table]
    refine List.mem_filter.mpr ⟨stood, decide_eq_true fun due => ?_⟩
    obtain ⟨n, ready⟩ := h.readyFor stood due
    exact nomatch config.symm.trans ready.subject
  · simpa only [masters] using h.unquarantined

end Sys2Proof.Machine
end

section
/-! PROOFS. The decision laws under requests and events, and so under every step. -/

namespace Sys2Proof.Machine

open Sys2Proof

theorem action_of_sameProposal {e : Entry} {act : Action} {arg : W16} (same : e.sameProposal act arg = true) :
    e.action = act := by
  unfold Entry.sameProposal at same
  rw [Bool.and_eq_true, decide_eq_true_iff] at same
  exact same.1

/-- The checks of a proposal read the lines and the masters. -/
theorem proposalValid_endEntry {s : State} (e : Entry) (out : EntryOutcome) {m : MasterId} {act : Action} {arg : W16}
    {sub : Subject} (valid : proposalValid s m act arg sub) :
    proposalValid (endEntry e out s) m act arg sub := by
  rw [endEntry_frame]
  cases sub <;> exact valid

namespace DecisionInv

variable {s t : State}

/-- A different proposal takes the place of an entry (R32). -/
theorem supersede (h : DecisionInv s) {m : MasterId} (eligible : s.eligible m = true) {e : Entry} {act : Action}
    {arg : W16} (dur : Option W16) (member : e ∈ s.table) (config : e.subject ≠ .config)
    (pairs : pairing e.subject act = true) (valid : proposalValid s m act arg e.subject) :
    DecisionInv (Machine.openAndCount m e.subject act dur none (Machine.endEntry e .superseded s)).1 := by
  have ended := h.endEntry member rfl rfl (out := .superseded) fun on => absurd on config
  have same : (Machine.endEntry e .superseded s).eligible m = true := by
    rw [endEntry_frame]
    exact eligible
  refine ended.openAndCount same dur pairs (proposalValid_endEntry e _ valid) (fun x left => ?_)
    ((length_endEntry_lt member _).trans_le h.lines.size)
  rw [endEntry_table, filter_id_eq_filter_subject h.subjects h.lines.ids member] at left
  exact of_decide_eq_true (List.mem_filter.mp left).2

/-- A session of the same owner or none, where no entry is touched and the session does not stand in VOTING. -/
theorem setSession (h : DecisionInv s) {x : Session} (before : ∀ o sh rev, s.session ≠ .voting o sh rev)
    (after : ∀ o sh rev, x ≠ .voting o sh rev) (eligible : ∀ m, x.owner? = some m → s.eligible m = true) :
    DecisionInv (s.setSession x) := by
  refine (h.core.shrink (t := s.setSession x) (h.lines.setSession x) rfl (fun _ e => e) h.holders.assertions
    h.holders.owners eligible (.refl _) (fun _ _ _ _ => rfl) rfl h.unquarantined).inv
    (.of_vacant (fun e member config => ?_) after)
  obtain ⟨o, sh, rev, voting, _⟩ := h.apply e member config
  exact before o sh rev voting

theorem endLease (h : DecisionInv s) (n : LineId) (reason : LeaseReason) (cause : Cause) :
    DecisionInv (endLease n reason cause s) := by
  cases owner : (s.line n).owner with
  | none => rw [Machine.endLease, owner]; exact h
  | some m =>
    have lines := h.lines.endLease n reason cause
    have ended := endLease_ends s n m reason cause owner
    generalize Machine.endLease n reason cause s = t at lines ended ⊢
    have holding : (t.line n).asserted = (s.line n).asserted ∧ (t.line n).owner = none := by
      rw [ended.line]
      split
      · exact ⟨rfl, rfl⟩
      · split <;> exact ⟨rfl, rfl⟩
    refine h.of_lines lines ended.frame (fun k j member => ?_) fun k j owned => ?_
    · by_cases same : k = n
      · rw [same, holding.1] at member; exact h.holders.assertions n j member
      · rw [ended.others k same] at member; exact h.holders.assertions k j member
    · by_cases same : k = n
      · rw [same, holding.2] at owned; nomatch owned
      · rw [ended.others k same] at owned; exact h.holders.owners k j owned

/-- What a request of a PRESENT master can do keeps the laws. -/
theorem effect (h : DecisionInv s) {m : MasterId} (present : (s.master m).presence = .present)
    (effect : RequestEffect m s t) : DecisionInv t := by
  have lines := h.lines.effect effect
  have eligible (free : (s.master m).quarantined = false) : s.eligible m = true :=
    (s.eligible_iff m).mpr ⟨present, free⟩
  cases effect with
  | kept => exact h
  | asserted n free _ _ =>
    refine h.claim lines (lineClaim_taken s n _ _) (fun k member => ?_) (h.holders.owners n)
    rw [Line.addAssertion, hasBit_addBit, Bool.or_eq_true, decide_eq_true_iff] at member
    rcases member with old | rfl
    · exact h.holders.assertions n k old
    · exact eligible free
  | dropped n _ =>
    refine h.claim lines (lineClaim_taken s n _ _) (fun k member => ?_) (h.holders.owners n)
    rw [Line.dropAssertion, hasBit_removeBit, Bool.and_eq_true] at member
    exact h.holders.assertions n k member.1
  | activated n _ _ => exact h.alike lines (lineClaim_alike s n _ rfl rfl)
  | released n _ _ => exact h.alike lines (lineClaim_alike s n _ rfl rfl)
  | pulsed n d _ _ _ => exact h.alike lines (lineClaim_alike s n _ rfl rfl)
  | leased n d free _ _ =>
    refine h.of_lines lines rfl (fun k j member => ?_) fun k j owner => ?_
    · rw [State.updLine_line] at member
      split at member
      · exact h.holders.assertions n j member
      · exact h.holders.assertions k j member
    · rw [State.updLine_line] at owner
      split at owner
      · exact Option.some.inj owner ▸ eligible free
      · exact h.holders.owners k j owner
  | relinquished n _ => exact h.endLease n _ _
  | voted sub act arg e free found same valid _ =>
    obtain ⟨member, rfl⟩ := mem_of_entryOn found
    refine h.vote (eligible free) member fun k on => ?_
    have pairs := (h.entries e member).pairing
    rw [action_of_sameProposal same] at pairs
    rw [on] at valid pairs
    exact (proposalValid_master (valid nofun) pairs free).1
  | opened sub act arg pairs free valid vacant room =>
    exact h.openAndCount (eligible free) _ pairs valid (subject_ne_of_vacant vacant) room
  | superseded sub act arg e pairs free found other _ valid =>
    obtain ⟨member, rfl⟩ := mem_of_entryOn found
    have config : e.subject ≠ .config := by
      intro on
      have apply := pairing_config (on ▸ (h.entries e member).pairing)
      rw [on] at pairs
      simp [Entry.sameProposal, apply, pairing_config pairs] at other
    exact h.supersede (eligible free) _ member config pairs (valid config)
  | withdrawn id e found voter => exact h.takeVote (mem_of_entryById found).1 voter
  | sessionOpened free none =>
    exact h.setSession (by rw [none]; nofun) nofun fun k owner => Option.some.inj owner ▸ eligible free
  | touched =>
    cases session : s.session with
    | editing o sh rev d =>
      rw [touchSession_editing session]
      refine ite_keeps h fun _ => h.setSession (by rw [session]; nofun) nofun fun k owner => ?_
      exact h.holders.session k (by rw [session]; exact owner)
    | voting o sh rev => rwa [touchSession_voting session]
    | none => rwa [touchSession, session]
  | written sh sh' rev d editing =>
    refine h.setSession (by rw [editing]; nofun) nofun fun k owner => ?_
    exact h.holders.session k (by rw [editing]; exact owner)
  | committed sh rev d free editing room => exact h.commit (eligible free) editing room
  | closed owner => exact h.endSession owner
  | flagsRead => exact h.alike lines (setStat_alike m _ s)
  | subscribed mask => exact h.alike lines (setStat_alike m _ s)
  | resynced => exact h.alike lines (.of_eq rfl rfl rfl rfl rfl rfl)

/-! ### Events -/

theorem renewed (h : DecisionInv s) (p : PortId) (src : Byte) : DecisionInv (renew p src s) := by
  have lines := lineInv_kept.renewed p src s h.lines
  refine (h.core.shrink lines (by rw [renew_hold]) (fun m before => ?_) ?_ ?_ ?_ ?_ (fun e _ m _ => ?_)
    (by rw [renew_nextId]) ?_).inv (h.sessionLaw.congr (renew_table s p src) (renew_session s p src))
  · rw [State.eligible_iff] at before ⊢
    rw [renew_quarantined]
    refine ⟨?_, before.2⟩
    by_cases same : m = p
    · rw [same]; exact renew_present p src s
    · rw [(renew_renewed s p src).others m same]; exact before.1
  · exact fun n m member => h.holders.assertions n m (renew_line s p src n ▸ member)
  · exact fun n m owner => h.holders.owners n m (renew_line s p src n ▸ owner)
  · exact fun m owner => h.holders.session m (renew_session s p src ▸ owner)
  · rw [renew_table]
  · exact renew_quarantined s p src m
  · obtain ⟨m, free⟩ := h.unquarantined
    exact ⟨m, by rw [renew_quarantined]; exact free⟩

/-- HOLD is asserted: no entry was READY before (R13, R43). -/
theorem holdAssertedEvent (h : DecisionInv s) (released : s.hold.qualified = .released) :
    DecisionInv (holdAssertedEvent s) := by
  have frame := holdAssertedEvent_frame s
  have line := holdAssertedEvent_line s
  have lines := h.lines.holdAssertedEvent
  generalize Machine.holdAssertedEvent s = t at frame line lines ⊢
  have masters (m : MasterId) : t.master m = s.master m := by rw [frame]; rfl
  have table : t.table = s.table := by rw [frame]
  have session : t.session = s.session := by rw [frame]
  have holding (n : LineId) : (t.line n).asserted = (s.line n).asserted ∧ (t.line n).owner = (s.line n).owner := by
    rw [line]
    unfold unpulsed
    split <;> split <;> simp
  have eligible (m : MasterId) : t.eligible m = s.eligible m := by rw [State.eligible, masters]; rfl
  refine (DecisionCore.mk lines ⟨fun n m member => ?_, fun n m owner => ?_, ?_, fun m owner => ?_⟩ (fun e member => ?_)
    (table ▸ h.subjects) (by rw [frame]; exact h.counter) ?_).inv (h.sessionLaw.congr table session)
  · rw [eligible]; exact h.holders.assertions n m ((holding n).1 ▸ member)
  · rw [eligible]; exact h.holders.owners n m ((holding n).2 ▸ owner)
  · simpa only [table, eligible] using h.holders.voters
  · rw [eligible]; exact h.holders.session m (session ▸ owner)
  · have law := h.entries e (table ▸ member)
    exact ⟨law.pairing, law.voters, law.id, law.count,
      fun due => (nomatch released.symm.trans (law.ready due).1), law.target,
      fun m on => masters m ▸ law.quarantine m on⟩
  · simpa only [masters] using h.unquarantined

theorem enterMismatch_alike (n : LineId) (s : State) : Alike s (enterMismatch n s) := by
  have enters := enterMismatch_enters s n
  refine .of_lines enters.frame fun k => ?_
  by_cases same : k = n
  · rw [same, enters.line]; exact ⟨rfl, rfl⟩
  · rw [enters.others k same]; exact ⟨rfl, rfl⟩

theorem settleReached_alike (n : LineId) (s : State) : Alike s (settleReached n s) := by
  unfold settleReached
  split
  · exact updLine_alike s n rfl rfl
  · exact enterMismatch_alike n s

theorem inputChanged_alike (n : LineId) (level : Level) (s : State) : Alike s (inputChanged n level s) := by
  have moved : Alike s (s.setInput n level) := .of_eq rfl rfl rfl rfl rfl rfl
  unfold inputChanged
  dsimp only
  split
  · exact moved
  · exact moved
  · exact moved.trans (enterMismatch_alike n _)
  · exact (moved.trans (updLine_alike (s.setInput n level) n rfl rfl)).trans (raise_alike _ _)

theorem assertReset (h : DecisionInv s) : DecisionInv (assertReset s) := by
  have line (n : LineId) : (Machine.assertReset s).line n = (s.line n).onReset := get_eachRecord _ _ _
  have master : (Machine.assertReset s).master 0 = resetMaster := get_replicate _ _
  exact of_empty h.lines.assertReset (fun n => by rw [line]; rfl) (fun n => by rw [line]; rfl) rfl rfl rfl
    (by rw [master]; rfl)

theorem afterPinReset (cfgsel : Level) (adrs : Byte) (holdPin : Level) (fbkPins : W16) :
    DecisionInv (State.afterPinReset cfgsel adrs holdPin fbkPins) := by
  have line (n : LineId) : (State.afterPinReset cfgsel adrs holdPin fbkPins).line n =
      resetLine (defaultLineConfig cfgsel) := get_replicate _ _
  have master : (State.afterPinReset cfgsel adrs holdPin fbkPins).master 0 = resetMaster := get_replicate _ _
  exact of_empty (.afterPinReset cfgsel adrs holdPin fbkPins) (fun n => by rw [line]; rfl) (fun n => by rw [line]; rfl)
    rfl rfl rfl (by rw [master]; rfl)

end DecisionInv

/-- Every event keeps the decision laws. -/
theorem decisionInv_kept : KeptByEvents DecisionInv where
  ports s ps h := h.alike (lineInv_kept.ports s ps h.lines) (.of_eq rfl rfl rfl rfl rfl rfl)
  flag m f s h := h.alike (h.lines.setFlag m f) (setFlag_alike m f s)
  renewed p src _ h := h.renewed p src
  effect _ _ _ present effect h := h.effect present effect
  began p _ _ s _ h := h.alike (h.lines.setStat p _) (setStat_alike p _ s)
  resetAsserted _ h := h.assertReset
  resetReleased cfgsel adrs holdPin fbkPins s h :=
    (DecisionInv.afterPinReset cfgsel adrs holdPin fbkPins).alike
      (lineInv_kept.resetReleased cfgsel adrs holdPin fbkPins s h.lines) (.of_eq rfl rfl rfl rfl rfl rfl)
  counted s c h := h.alike (lineInv_kept.counted s c h.lines) (.of_eq rfl rfl rfl rfl rfl rfl)
  holdInput s raw measuring h :=
    h.alike (lineInv_kept.holdInput s raw measuring h.lines) (.of_eq rfl rfl rfl rfl rfl rfl)
  holdAsserted _ _ released h := h.holdAssertedEvent released
  holdReleased _ _ held h := h.holdReleasedEvent held
  feedbackPin s v h := h.alike (lineInv_kept.feedbackPin s v h.lines) (.of_eq rfl rfl rfl rfl rfl rfl)
  feedbackInput n level s h := h.alike (h.lines.inputChanged n level) (DecisionInv.inputChanged_alike n level s)
  pulseEnded n s running h :=
    h.alike (lineInv_kept.pulseEnded n s running h.lines) (lineClaim_alike s n _ rfl rfl)
  leaseEnded n _ _ h := h.endLease n _ _
  settled n s running h := h.alike (h.lines.settleReached n running) (DecisionInv.settleReached_alike n s)
  expired m _ _ h := h.expireMaster m
  entryExpired id e s found h := h.endEntry (mem_of_entryById found).1 rfl rfl fun _ => .inl rfl
  idleEnded o sh rev d s editing h := h.setSession (by rw [editing]; nofun) nofun nofun

/-- Settles O59: every event keeps the decision laws, and no command reads the queue of commands. -/
theorem stepKeepsTheDecisionState : Obligations.StepKeepsTheDecisionState :=
  fun _ _ => decisionInv_kept.step fun _ _ h =>
    h.alike (h.lines.congr rfl rfl rfl rfl rfl) (.of_eq rfl rfl rfl rfl rfl rfl)

end Sys2Proof.Machine
end

section
/-! PROOFS. The absence of a master (R92, R93, R96, R103): the removal of all that it holds, and what it is told no
more. -/

namespace Sys2Proof.Machine

open Sys2Proof

/-! ### Flags -/

theorem flagBit_lt (f : Flag) : flagBit f < 11 := by cases f <;> decide

theorem flagBit_injective {f g : Flag} (same : flagBit f = flagBit g) : f = g := by
  revert same; cases f <;> cases g <;> decide

/-- Setting a flag sets that flag alone (R155). -/
theorem hasFlag_withFlag (flags : FlagSet) (f g : Flag) :
    hasFlag (withFlag flags g) f = true ↔ hasFlag flags f = true ∨ f = g := by
  have same : flagBit g = flagBit f ↔ f = g := ⟨fun h => flagBit_injective h.symm, fun h => h ▸ rfl⟩
  simp only [hasFlag, withFlag, hasBit, addBit, BitVec.getLsbD_or, BitVec.getLsbD_twoPow, Bool.or_eq_true,
    Bool.and_eq_true, decide_eq_true_iff, flagBit_lt, true_and, same]

/-! ### One master's record -/

/-- What a master is told depends on its own presence alone (R161). -/
theorem told_of_own {s t : State} {m : MasterId} (same : (t.master m).presence = (s.master m).presence)
    (notices : List Notice) (r : StatusRecord) : told t m notices r = told s m notices r := by
  simp only [told, noticed, same]

theorem noticed_of_absent {s : State} {m : MasterId} (absent : (s.master m).presence = .absent) (nt : Notice)
    (r : StatusRecord) : noticed s m nt r = r :=
  if_neg fun ⟨present, _⟩ => nomatch (absent.symm.trans present : Presence.absent = .present)

/-- An ABSENT master is told nothing (R93, R161). -/
theorem told_of_absent {s : State} {m : MasterId} (absent : (s.master m).presence = .absent) (notices : List Notice)
    (r : StatusRecord) : told s m notices r = r := by
  induction notices generalizing r with
  | nil => rfl
  | cons nt rest ih => rw [told_cons, noticed_of_absent absent, ih]

/-- What absence leaves of a status record (R92 step 3). -/
theorem StatusRecord.onAbsence_fields (r : StatusRecord) :
    r.onAbsence.mask = 0#6 ∧ r.onAbsence.queue = [] ∧ r.onAbsence.seq = r.seq ∧
      r.onAbsence.flags = if r.queue = [] then r.flags else withFlag r.flags .noticeLost := by
  unfold StatusRecord.onAbsence
  split <;> exact ⟨rfl, rfl, rfl, rfl⟩

/-! ### The event (R92) -/

/-- The removal of a master whose record has changed is the removal of the master. -/
theorem MasterRemoved.of_setMaster {m : MasterId} {s t : State} {r : Master}
    (removed : MasterRemoved m (s.setMaster m r) t) : MasterRemoved m s t :=
  ⟨by rw [removed.frame]; rfl, removed.line, removed.table, removed.session⟩

/-- A removal leaves status records and masters out of account. -/
theorem MasterRemoved.congr {m : MasterId} {s t u : State} (removed : MasterRemoved m s t)
    (same : u = { t with masters := u.masters, status := u.status }) : MasterRemoved m s u where
  frame := by rw [same, removed.frame]
  line n := by rw [same]; exact removed.line n
  table := by rw [same]; exact removed.table
  session := by rw [same]; exact removed.session

/-- The removal of a master whose record changes first (R92 step 1, R97 step 1). -/
theorem removalFanOut_setMaster {s : State} (h : LineInv s) (law : TableLaw s) (m : MasterId) (r : Master)
    (reason : RemovalReason) :
    MasterRemoved m s (removalFanOut m reason (s.setMaster m r)) ∧
    (∀ k, (removalFanOut m reason (s.setMaster m r)).master k = if k = m then r else s.master k) ∧
    ∀ k, (removalFanOut m reason (s.setMaster m r)).stat k =
      (told (s.setMaster m r) k (removalNotices s m reason.leaseReason reason.cause) (s.stat k)).mark
        (leaseLost m (ownsALine s m) k) := by
  obtain ⟨removed, masters, told⟩ := removalFanOut_removed (h.setMaster m r) (law.setMaster m r) m reason
  refine ⟨removed.of_setMaster, fun k => ?_, told.stat⟩
  rw [State.master, masters, ← State.master, State.setMaster_master]

theorem exec_presenceDeadline {s : State} {m : MasterId} {d : Deadline} (running : s.rstn = .high)
    (deadline : (s.master m).deadline = some d) (reached : d.reached s.count = true) :
    exec (.presenceDeadline m) s = .next (expireMaster m s) := by
  show Host.Outcome.next (whenRunning _ s) = _
  have due : s.due (s.master m).deadline = true := by rw [deadline]; exact reached
  simp only [whenRunning, running, due, if_true]

/-- The absence of a master, said whole: the removal, the master's record and its status record, and what the others
are told (R92, R103). -/
theorem expireMaster_removed {s : State} (h : DecisionInv s) (m : MasterId) :
    MasterRemoved m s (expireMaster m s) ∧
    (∀ k, (expireMaster m s).master k =
      if k = m then { s.master m with presence := .absent, deadline := none } else s.master k) ∧
    (∀ k, k ≠ m → (expireMaster m s).stat k = told s k (removalNotices s m .absent .absent ++
      [.masterChanged m .expired .absent (s.master m).quarantined]) (s.stat k)) ∧
    (expireMaster m s).stat m =
      (if ownsALine s m then (s.stat m).setFlag .leaseLost else s.stat m).onAbsence := by
  have own (k : MasterId) (other : k ≠ m) :
      ((s.setMaster m { s.master m with presence := .absent, deadline := none }).master k).presence =
        (s.master k).presence := by rw [State.setMaster_master, if_neg other]
  have gone : ((s.setMaster m { s.master m with presence := .absent, deadline := none }).master m).presence =
      .absent := by rw [State.setMaster_master_same]
  obtain ⟨removed, master, stat⟩ := removalFanOut_setMaster h.lines h.tableLaw m
    { s.master m with presence := .absent, deadline := none } .absent
  unfold expireMaster raiseMasterChanged
  dsimp only
  generalize s.setMaster m { s.master m with presence := .absent, deadline := none } = x
    at own gone stat removed master ⊢
  generalize removalFanOut m .absent x = y at removed master stat ⊢
  have absent : (y.master m).presence = .absent := by rw [master, if_pos rfl]
  refine ⟨removed.congr rfl, master, fun k other => ?_, ?_⟩
  · have own' : ((y.setStat m (y.stat m).onAbsence).master k).presence = (s.master k).presence := by
      rw [State.setStat_master, master, if_neg other]
    have removal : y.stat k = told s k (removalNotices s m .absent .absent) (s.stat k) := by
      rw [stat, told_of_own (own k other), leaseLost, if_neg fun same => other same.1, StatusRecord.mark_zero]
      rfl
    rw [raise_noticed, State.setStat_master, master, if_pos rfl, State.setStat_stat, if_neg other, removal, told_append]
    exact told_of_own own' [_] _
  · have absent' : ((y.setStat m (y.stat m).onAbsence).master m).presence = .absent := by
      rw [State.setStat_master]; exact absent
    rw [raise_noticed, noticed_of_absent absent', State.setStat_stat_same, stat, told_of_absent gone, leaseLost]
    simp only [true_and, StatusRecord.mark_ite]

/-- Settles O41: the removal said whole, read record by record. -/
theorem absenceTakesAllThatTheMasterHolds : Obligations.AbsenceTakesAllThatTheMasterHolds := by
  intro m d s h running deadline reached
  obtain ⟨removed, master, told, stat⟩ := expireMaster_removed h m
  have law := h.lines.law
  have frame := removed.frame
  have kept : (if ownsALine s m then (s.stat m).setFlag .leaseLost else s.stat m).queue = (s.stat m).queue ∧
      (if ownsALine s m then (s.stat m).setFlag .leaseLost else s.stat m).seq = (s.stat m).seq := by
    split <;> exact ⟨rfl, rfl⟩
  obtain ⟨mask, queue, seq, flags⟩ :=
    (if ownsALine s m then (s.stat m).setFlag .leaseLost else s.stat m).onAbsence_fields
  rw [← stat] at mask queue seq flags
  refine ⟨expireMaster m s, exec_presenceDeadline running deadline reached, removed, ?own, ?others, told, mask, queue,
    seq.trans kept.2, ?flags, removed.not_holding law, removed.line_of_owner law, ?votes, removed.session_owner_ne,
    removed.line_of_policy law, fun n k => removed.line_of_other_owner law n, ?asserted, fun k => removed.session_owner,
    by rw [frame], by rw [frame], by rw [frame], by rw [frame], by rw [frame]⟩
  case own => rw [master, if_pos rfl]
  case others => exact fun k other => by rw [master, if_neg other]
  case votes =>
    intro x left
    obtain ⟨e, _, rfl, _, voters⟩ := removed.exists_of_mem left
    exact ⟨by rw [hasBit_unvoted]; simp, voters⟩
  case asserted => exact fun n k other => by rw [removed.asserted]; simp [other]
  case flags =>
    intro f
    rw [flags, kept.1]
    by_cases owns : ownsALine s m <;> by_cases waits : (s.stat m).queue = [] <;>
      simp [owns, waits, StatusRecord.setFlag, hasFlag_withFlag, or_assoc, or_comm, or_left_comm]

end Sys2Proof.Machine
end

section
/-! PROOFS. The six direct requests that pass their checks: what each does to its line (R55, R56, R60 to R64). -/

namespace Sys2Proof.Machine

open Sys2Proof

/-- A direct request that its owning unit takes: an effect on its line alone, and the line result for an answer. -/
theorem directRequest_taken {p : PortId} {src tag : Byte} {n : LineId} {code : RequestCode} {params : List Byte}
    {request : Request} {s t : State} {effect : State → State → Prop} (served : Served p src tag code params s)
    (length : params.length = code.paramLength) (decoded : decodeFields code params = .ok request)
    (answer : dispatch p ((s.master p).presence = .absent) request (renew p src s) = lineDone n t)
    (alone : OnLineAlone n (renew p src s) t) (holds : effect (renew p src s) t) :
    RequestTaken p src tag code params effect (fun _ t => ⟨.done, nineBytes t n⟩) s
      (requestEvent p src tag code params s) :=
  requestEvent_taken_of_ports s p src tag code params request t ⟨.done, lineResult t n⟩ effect _ served length
    decoded answer nofun (alone.ports.trans (renew_ports s p src))
    (alone.linkAddress.trans (renew_linkAddress s p src)) holds (by rw [nineBytes_eq])

/-- A direct request taken as one claim on its line. -/
theorem directRequest_claims {p : PortId} {src tag : Byte} {n : LineId} {code : RequestCode} {params : List Byte}
    {request : Request} {s : State} {f : Line → Line} {effect : State → State → Prop}
    (served : Served p src tag code params s)
    (length : params.length = code.paramLength) (decoded : decodeFields code params = .ok request)
    (answer : dispatch p ((s.master p).presence = .absent) request (renew p src s) =
      lineDone n (lineClaim n .direct f (renew p src s)))
    (claims : ∀ t, ClaimTaken n .direct f (renew p src s) t → effect (renew p src s) t) :
    RequestTaken p src tag code params effect (fun _ t => ⟨.done, nineBytes t n⟩) s
      (requestEvent p src tag code params s) :=
  directRequest_taken served length decoded answer (lineClaim_onLineAlone ..) (claims _ (lineClaim_taken ..))

/-- Two ways to write the same owner (R61 keeps it). -/
theorem takeLease_of_owner {m : MasterId} {l : Line} (owner : l.owner = some m) (now : W32) (d : W16) :
    l.takeLease m now d = { l with lease := some ⟨now, d⟩ } := by
  rw [Line.takeLease, ← owner]

/-- The decoding of a direct request that carries a duration. -/
theorem decodeFields_duration {code : RequestCode} {n : LineId} {d : W16} {request : LineId → W16 → Request}
    (fields : ∀ d1 d0, decodeFields code [lineByte n, d1, d0] =
      onLine (lineByte n) fun l => request l (bytesWord d1 d0)) :
    decodeFields code (lineByte n :: wordBytes d) = .ok (request n d) := by
  rw [wordBytes, fields, onLine_lineByte, bytesWord_wordBytes]

/-- Settles O8: a claim on a free or own line, and a renewal of the own lease, write the two lease fields. -/
theorem claimAndRenewSetTheLease : Obligations.ClaimAndRenewSetTheLease := by
  intro p src tag n d s unmarked leased low high
  have fits : leaseDurationOk (s.line n) d = true := (leaseDurationOk_iff _ _).mpr ⟨low, high⟩
  refine ⟨?claim, ?renew⟩
  case claim =>
    intro owner served
    have available : ¬((s.line n).owner ≠ none ∧ (s.line n).owner ≠ some p) :=
      fun ⟨owned, other⟩ => owner.elim owned other
    refine ⟨_, rfl, directRequest_taken served rfl (decodeFields_duration (decodeFields_claimLine _)) ?_
      (updLine_onLineAlone n (Line.takeLease p (renew p src s).count d) _) rfl⟩
    simp [dispatch, reqClaimLine, unmarked, leased, available, fits]
  case renew =>
    intro owner served
    refine ⟨_, rfl, directRequest_taken served rfl (decodeFields_duration (decodeFields_renewLease _)) ?_
      (updLine_onLineAlone n (Line.takeLease p (renew p src s).count d) _) ?_⟩
    · simp [dispatch, reqRenewLease, unmarked, leased, owner, fits]
    · rw [State.updLine, takeLease_of_owner ((renew_line ..).symm ▸ owner)]

/-- Settles O9: the owner's lease ends as R66 says. -/
theorem relinquishEndsTheLease : Obligations.RelinquishEndsTheLease := by
  intro p src tag n s served unmarked leased owner
  have renewed_owner : ((renew p src s).line n).owner = some p := (renew_line ..).symm ▸ owner
  refine ⟨_, rfl, directRequest_taken served rfl (onLine_lineByte n .relinquishLine) ?_
    (endLease_onLineAlone .relinquished .direct renewed_owner)
    (endLease_ends _ n p .relinquished .direct renewed_owner)⟩
  simp [dispatch, reqRelinquishLine, unmarked, leased, owner]

/-- Settles O10: each is one claim on the line, by its policy. -/
theorem assertAndReleaseChangeTheLine : Obligations.AssertAndReleaseChangeTheLine := by
  intro p src tag n s unmarked
  refine ⟨?assertShared, ?releaseShared, ?assertLeased, ?releaseLeased⟩
  case assertShared =>
    intro shared unheld served
    refine ⟨_, rfl, directRequest_claims (f := Line.addAssertion p) served rfl (onLine_lineByte n .assertLine)
      ?_ fun _ taken => taken⟩
    simp [dispatch, reqAssertLine, unmarked, shared, State.held, unheld]
  case releaseShared =>
    intro shared served
    refine ⟨_, rfl, directRequest_claims (f := Line.dropAssertion p) served rfl (onLine_lineByte n .releaseLine)
      ?_ fun _ taken => taken⟩
    simp [dispatch, reqReleaseLine, unmarked, shared]
  case assertLeased =>
    intro leased owner unheld served
    refine ⟨_, rfl, directRequest_claims (f := Line.commandActive) served rfl (onLine_lineByte n .assertLine)
      ?_ fun _ taken => taken⟩
    simp [dispatch, reqAssertLine, unmarked, leased, owner, State.held, unheld]
  case releaseLeased =>
    intro leased owner served
    refine ⟨_, rfl, directRequest_claims (f := Line.commandReleased) served rfl (onLine_lineByte n .releaseLine)
      ?_ fun _ taken => taken⟩
    simp [dispatch, reqReleaseLine, unmarked, leased, owner]

/-- Settles O11: the pulse starts in one claim. -/
theorem pulseLineStartsAPulse : Obligations.PulseLineStartsAPulse := by
  intro p src tag n d s served unmarked leased owner low high unheld
  have fits : pulseDurationOk (s.line n) d = true := (pulseDurationOk_iff _ _).mpr ⟨low, high⟩
  have pulses : (s.line n).cfg.pulseMax ≠ 0#16 := by
    intro none
    rw [none, BitVec.toNat_ofNat] at high
    omega
  refine ⟨_, rfl, directRequest_claims (f := Line.startPulse (renew p src s).count d) served rfl
    (decodeFields_duration (decodeFields_pulseLine _)) ?_ fun _ taken => taken⟩
  simp [dispatch, reqPulseLine, unmarked, leased, owner, pulses, fits, State.held, unheld]

end Sys2Proof.Machine
end

section
/-! PROOFS. PROPOSE (chapter 2): refused by its checks, opening an entry, voting for one, superseding one. -/

namespace Sys2Proof.Machine

open Sys2Proof

variable {p : PortId} {src tag index : Byte} {sub : Subject} {act : Action} {arg : W16} {s : State}

/-- A PROPOSE as one event, from what the Proposal Unit answers in the renewed state. -/
theorem propose_taken {t : State} {a : Answer} {effect : State → State → Prop} {ans : State → State → Answer}
    (pairs : pairing sub act = true) (spells : indexSpells index sub)
    (served : Served p src tag .propose (proposalParams sub index act arg) s)
    (answer : reqPropose p sub act arg (renew p src s) = (t, a)) (status : a.status ≠ .code)
    (idle : (t.port p).assembly = ⟨.idle, []⟩) (address : t.linkAddress = s.linkAddress)
    (holds : effect (renew p src s) t) (same : ans (renew p src s) t = a) :
    RequestTaken p src tag .propose (proposalParams sub index act arg) effect ans s
      (requestEvent p src tag .propose (proposalParams sub index act arg) s) :=
  requestEvent_taken s p src tag .propose _ (.propose sub act arg) t a effect ans served rfl
    (decodeFields_proposalParams _ _ _ _ pairs spells) answer status idle address holds same

/-- A PROPOSE that is answered without an effect. -/
theorem propose_refused {st : Status} {res : List Byte} (pairs : pairing sub act = true)
    (spells : indexSpells index sub)
    (served : Served p src tag .propose (proposalParams sub index act arg) s)
    (answer : reqPropose p sub act arg (renew p src s) = (renew p src s, ⟨st, res⟩)) (status : st ≠ .code) :
    RequestRefused p src tag .propose (proposalParams sub index act arg) st (fun _ => res) s
      (requestEvent p src tag .propose (proposalParams sub index act arg) s) :=
  requestEvent_refused s p src tag .propose _ (.propose sub act arg) st _ served rfl
    (decodeFields_proposalParams _ _ _ _ pairs spells) answer status

/-- A served request finds its assembly record idle as long as the ports are left. -/
theorem Served.idle {code : RequestCode} {params : List Byte} (served : Served p src tag code params s) {t : State}
    (ports : t.ports = s.ports) : (t.port p).assembly = ⟨.idle, []⟩ := by
  rw [State.port, ports]
  exact served.1.idle

/-- A vote is cast on what the entry asks for (R30). -/
theorem VotesFor.fields {e : Entry} (votes : VotesFor s p sub act arg e) :
    e.subject = sub ∧ e.action = act ∧ e ∈ s.table := by
  refine ⟨by simpa using List.find?_some votes.found, ?_, List.mem_of_find?_eq_some votes.found⟩
  by_contra other
  exact votes.same (.inl other)

/-! ### Opening an entry (R29) -/

/-- A proposal on a free subject opens its entry and counts its first vote (R29). -/
theorem reqPropose_opens (free : (s.master p).quarantined = false) (valid : proposalValid s p act arg sub)
    (vacant : s.entryOn sub = none) (room : s.table.length < 12) :
    reqPropose p sub act arg (renew p src s) =
      ((countVotes (freshEntry s s.freeId p sub act arg)
          (openEntry (freshEntry s s.freeId p sub act arg) (renew p src s))).1,
        ⟨(countVotes (freshEntry s s.freeId p sub act arg)
          (openEntry (freshEntry s s.freeId p sub act arg) (renew p src s))).2,
          voteResult (freshEntry s s.freeId p sub act arg)⟩) := by
  have unfull : (renew p src s).tableFull = false := by
    rw [renew_tableFull]
    exact decide_eq_false (Nat.not_le.mpr room)
  rw [reqPropose_valid _ _ _ _ _ (by simpa using free) ((proposalValid_renew _ _ _ _ _ _ _).2 valid)]
  simp only [proposeToTable, renew_entryOn, vacant, proposeFresh, unfull, openAndCount, newEntry_fresh,
    renew_freeId, freshEntry_renew]
  rfl

/-- Settles O21: the entry opens and its one vote is below its count. -/
theorem proposeOpensAnEntry : Obligations.ProposeOpensAnEntry := by
  intro p src tag index sub act arg s pairs spells served free valid vacant room quorum
  have below : (freshEntry s s.freeId p sub act arg).count < (freshEntry s s.freeId p sub act arg).required.toNat := by
    rw [show (freshEntry s s.freeId p sub act arg).count = 1 from masterCount_onlyBit p]
    exact quorum
  refine ⟨_, rfl, propose_taken pairs spells served (reqPropose_opens free valid vacant room) ?_ ?_ ?_ ?_ ?_⟩
  all_goals rw [countVotes_voted _ _ rfl below]
  · nofun
  · exact served.idle (renew_ports s p src)
  · exact renew_linkAddress s p src
  · rw [freshEntry_renew]
    exact openEntry_opens _ _
  · rw [freshEntry_renew, voteResult,
      show (freshEntry s s.freeId p sub act arg).count = 1 from masterCount_onlyBit p]
    rfl

/-! ### Voting (R30, R31) -/

/-- Settles O23: a vote is refused to a voter, or added and counted. -/
theorem votesAreCounted : Obligations.VotesAreCounted := by
  intro p src tag index sub act arg e s pairs spells served votes
  have idle := served.idle (t := (renew p src s).putEntry (withVote p e)) (renew_ports s p src)
  refine ⟨fun voted => ?again, fun new voting below => ?voted, fun new ready => ?ready⟩
  case again =>
    refine ⟨_, rfl, propose_refused pairs spells served ?_ nofun⟩
    rw [reqPropose_votes s src votes, proposeVote, if_pos voted]
    rfl
  case voted =>
    exact ⟨_, rfl, vote_taken s p src tag index sub act arg e _ .voted _ pairs spells served votes new
      (countVotes_voted _ _ voting below) nofun idle (renew_linkAddress s p src) rfl⟩
  case ready =>
    exact ⟨_, rfl, vote_taken s p src tag index sub act arg e _ .ready _ pairs spells served votes new
      (countVotes_ready _ _ ready) nofun idle (renew_linkAddress s p src) rfl⟩

/-! ### Supersession (R32) -/

/-- Settles O26: the old entry gives way, and the new one is below its count. -/
theorem theSoleVoterSupersedes : Obligations.TheSoleVoterSupersedes := by
  intro p src tag n act arg e s pairs served free valid found differ sole quorum
  have subject : e.subject = .line n := by simpa using List.find?_some found
  have stays : e.subject ≠ .config := by rw [subject]; nofun
  have ended := endEntry_ends (renew p src s) e .superseded stays
  have fresh := (supersede_fresh (renew p src s) e stays _ p (.line n) act arg rfl).2
  have id := (supersede_fresh (renew p src s) e stays _ p (.line n) act arg rfl).1
  have frame := supersede_frame (renew p src s) e
    (freshEntry (renew p src s) (endEntry e .superseded (renew p src s)).freeId p (.line n) act arg) stays
  have answer : reqPropose p (.line n) act arg (renew p src s) =
      openAndCount p (.line n) act (keptDuration act arg) none (endEntry e .superseded (renew p src s)) := by
    rw [reqPropose_valid _ _ _ _ _ (by simpa using free) ((proposalValid_renew _ _ _ _ _ _ _).2 valid)]
    simp only [proposeToTable, renew_entryOn, found, sameProposal_of_differs differ, proposeOther, sole, if_true,
      subject, Bool.false_eq_true, if_false]
  rw [← id] at fresh
  generalize endEntry e .superseded (renew p src s) = x at ended fresh frame answer
  have below : (freshEntry x x.freeId p (.line n) act arg).count <
      (freshEntry x x.freeId p (.line n) act arg).required.toNat := by
    rw [show (freshEntry x x.freeId p (.line n) act arg).count = 1 from masterCount_onlyBit p, fresh,
      freshEntry_required_renew]
    exact quorum
  rw [openAndCount, newEntry_fresh] at answer
  rw [countVotes_voted _ _ rfl below, fresh] at answer
  refine ⟨_, x.freeId, rfl, propose_taken pairs rfl served answer nofun ?_ ?_ ⟨x, ended, rfl, ?_⟩ ?_⟩
  · exact served.idle ((congrArg State.ports frame :).trans (renew_ports s p src))
  · exact (congrArg State.linkAddress frame :).trans (renew_linkAddress s p src)
  · exact openEntry_opens _ _
  · rw [voteResult, show (freshEntry (renew p src s) x.freeId p (.line n) act arg).count = 1 from masterCount_onlyBit p]
    rfl

/-! ### Refusals (R25 to R29, R33) -/

/-- What the Proposal Unit answers when a check of R25 to R29 or R33 fails. -/
theorem ProposeRefused.answer {st : Status} {res : List Byte} (refused : ProposeRefused s p act arg sub st res) :
    reqPropose p sub act arg s = (s, ⟨st, res⟩) ∧ st ≠ .code := by
  refine ⟨?_, by cases refused <;> nofun⟩
  cases refused with
  | quarantined sub marked => simp [reqPropose, marked, refuse]
  | policy n free other => simp [reqPropose, free, checkLineProposal, other, refuse]
  | noPulse n free quorum pulse none => simp [reqPropose, free, checkLineProposal, quorum, pulse, none, refuse]
  | range n free quorum pulse some outside =>
    have misfit : pulseDurationOk (s.line n) arg = false := by
      rw [← Bool.not_eq_true, pulseDurationOk_iff]
      rintro ⟨low, high⟩
      rcases outside with rfl | above
      · exact absurd low (by decide)
      · exact absurd high (Nat.not_le.mpr above)
    simp [reqPropose, free, checkLineProposal, quorum, pulse, some, misfit, refuse]
  | notEligible free quarantine => simp [reqPropose, free, checkMasterProposal, quarantine, refuse]
  | quarantinedAlready k free quarantine other marked =>
    simp [reqPropose, free, checkMasterProposal, quarantine, other, marked, refuse]
  | notQuarantined k free reinstate unmarked =>
    simp [reqPropose, free, checkMasterProposal, reinstate, unmarked, refuse]
  | noSession free none => simp [reqPropose, free, proposeConfig, none, refuse]
  | stale e rev free found revision other => simp [reqPropose, free, proposeConfig, found, revision, other]
  | tableFull sub free valid vacant full =>
    have filled : s.tableFull = true := decide_eq_true full
    rw [reqPropose_valid _ _ _ _ _ free valid]
    simp [proposeToTable, vacant, proposeFresh, filled, refuse]
  | conflict sub e free valid found differ others =>
    rw [reqPropose_valid _ _ _ _ _ free valid]
    simp [proposeToTable, found, sameProposal_of_differs differ, proposeOther, others]

/-- No check of a proposal reads what a renewal changes (R25 to R29, R33). -/
theorem ProposeRefused.renewed {st : Status} {res : List Byte} (refused : ProposeRefused s p act arg sub st res)
    (src : Byte) : ProposeRefused (renew p src s) p act arg sub st res := by
  cases refused with
  | quarantined sub marked => exact .quarantined sub (by simpa using marked)
  | policy n free other => exact .policy n (by simpa using free) (by simpa using other)
  | noPulse n free quorum pulse none =>
    exact .noPulse n (by simpa using free) (by simpa using quorum) pulse (by simpa using none)
  | range n free quorum pulse some outside =>
    exact .range n (by simpa using free) (by simpa using quorum) pulse (by simpa using some) (by simpa using outside)
  | notEligible free quarantine => exact .notEligible (by simpa using free) quarantine
  | quarantinedAlready k free quarantine other marked =>
    exact .quarantinedAlready k (by simpa using free) quarantine other (by simpa using marked)
  | notQuarantined k free reinstate unmarked =>
    exact .notQuarantined k (by simpa using free) reinstate (by simpa using unmarked)
  | noSession free none => exact .noSession (by simpa using free) (by simpa using none)
  | stale e rev free found revision other =>
    exact .stale e rev (by simpa using free) (by simpa using found) revision other
  | tableFull sub free valid vacant full =>
    exact .tableFull sub (by simpa using free) ((proposalValid_renew _ _ _ _ _ _ _).2 valid) (by simpa using vacant)
      (by simpa using full)
  | conflict sub e free valid found differ others =>
    exact .conflict sub e (by simpa using free) ((proposalValid_renew _ _ _ _ _ _ _).2 valid) (by simpa using found)
      differ others

/-- Settles O27: the first failing check answers, and it fails in the renewed state as well. -/
theorem proposeIsRefusedByItsChecks : Obligations.ProposeIsRefusedByItsChecks := by
  intro p src tag index sub act arg s st res pairs spells served refused
  obtain ⟨answer, status⟩ := (refused.renewed src).answer
  exact ⟨_, rfl, propose_refused pairs spells served answer status⟩

end Sys2Proof.Machine
end

section
/-! PROOFS. The PROPOSE that brings an entry to its required count (R29, R30, R32): it is carried (R38 to R42), or
becomes READY under HOLD (R43). -/

namespace Sys2Proof.Machine

open Sys2Proof

/-! ### Reaching the count -/

/-- An entry opening in s has one outcome. -/
theorem EntryOpens.eq_openEntry {e : Entry} {s t : State} (opens : EntryOpens e s t) : t = openEntry e s := by
  have status : t.status = (openEntry e s).status :=
    vector_ext_get fun m => (opens.status m).trans ((openEntry_opens s e).status m).symm
  rw [opens.frame, status]
  rfl

section

variable {p : PortId} {src tag index : Byte} {sub : Subject} {act : Action} {arg : W16} {e : Entry}
  {reached : State → State → Prop} {s : State}

theorem CountReached.fields (counted : CountReached s p sub act arg e reached) :
    e.subject = sub ∧ e.action = act := by
  cases counted with
  | vote e votes => exact ⟨votes.fields.1, votes.fields.2.1⟩
  | opened => exact ⟨rfl, rfl⟩
  | superseded => exact ⟨rfl, rfl⟩

/-- The PROPOSE as one event, from the state in which the votes of the entry are counted. -/
theorem CountReached.counts (counted : CountReached s p sub act arg e reached) (pairs : pairing sub act = true)
    (spells : indexSpells index sub)
    (served : Served p src tag .propose (proposalParams sub index act arg) s) :
    ∃ x, reached (renew p src s) x ∧
      x = { renew p src s with table := x.table, nextId := x.nextId, status := x.status } ∧
      e.state = .voting ∧ e.required.toNat ≤ e.count ∧
      ∀ (t : State) (st : Status) (effect : State → State → Prop), countVotes e x = (t, st) → st ≠ .code →
        (t.port p).assembly = ⟨.idle, []⟩ → t.linkAddress = s.linkAddress → effect (renew p src s) t →
        RequestTaken p src tag .propose (proposalParams sub index act arg) effect
          (fun _ _ => ⟨st, [e.id, byteOf e.count, e.required]⟩) s
          (requestEvent p src tag .propose (proposalParams sub index act arg) s) := by
  obtain ⟨x, from_renewed, frame, voting, enough, answer⟩ := propose_reached s src counted
  refine ⟨x, from_renewed, frame, voting, enough, fun t st effect counts status idle address holds => ?_⟩
  rw [counts] at answer
  exact propose_taken pairs spells served answer status idle address holds rfl

/-- The PROPOSE as one event, when it carries an entry that is neither an APPLY nor a RESTART: the effect is what the
hand-off does in the state in which the votes are counted, and the end of the entry. -/
theorem CountReached.carries (counted : CountReached s p sub act arg e reached) (pairs : pairing sub act = true)
    (spells : indexSpells index sub)
    (served : Served p src tag .propose (proposalParams sub index act arg) s)
    (due : s.hold.qualified = .released ∨ e.activates = false) (other : act ≠ .restart)
    {effect : State → State → Prop}
    (holds : ∀ x, reached (renew p src s) x →
      x = { renew p src s with table := x.table, nextId := x.nextId, status := x.status } →
      (handOff e x).ports = x.ports ∧ (handOff e x).linkAddress = x.linkAddress ∧
        (EntryEnds e .carried (handOff e x) (endEntry e .carried (handOff e x)) →
          effect (renew p src s) (endEntry e .carried (handOff e x)))) :
    RequestTaken p src tag .propose (proposalParams sub index act arg) effect
      (fun _ _ => ⟨.carried, [e.id, byteOf e.count, e.required]⟩) s
      (requestEvent p src tag .propose (proposalParams sub index act arg) s) := by
  obtain ⟨x, from_renewed, frame, voting, enough, taken⟩ := counted.counts pairs spells served
  obtain ⟨ports, address, effected⟩ := holds x from_renewed frame
  have ends := endEntry_ends_of_outcome (handOff e x) e .carried nofun nofun
  have unheld : x.held = false ∨ e.activates = false := by
    refine due.imp_left fun released => ?_
    rw [State.held, show x.hold = s.hold by rw [frame, renew_hold], released]
    rfl
  refine taken _ .carried effect (countVotes_carried x e voting enough unheld) nofun ?_ ?_ ?_
  all_goals rw [carry_eq (counted.fields.2 ▸ other)]
  · refine served.idle ?_
    rw [ends.frame, ports, frame]
    exact renew_ports s p src
  · rw [ends.frame, address, frame]
    exact renew_linkAddress s p src
  · exact effected ends

end

/-! ### LINE entries (R39, R43) -/

/-- Settles O24: the hand-off of a LINE entry is one claim on its line. -/
theorem lineEntriesAreCarried : Obligations.LineEntriesAreCarried := by
  intro p src tag n act arg e reached s pairs served counted due
  obtain ⟨subject, action⟩ := counted.fields
  refine ⟨_, rfl, counted.carries pairs rfl served ?_ (pairing_line pairs) fun x from_renewed frame => ?_⟩
  · refine due.imp_right ?_
    rintro rfl
    rw [Entry.activates, subject, action]
  · have count : x.count = (renew p src s).count := by rw [frame]
    have claimed := lineClaim_taken x n .proposal (carriedLine x.count e)
    rw [handOff_line x e n subject (by rw [subject, action]; exact pairs)]
    refine ⟨by rw [claimed.frame], by rw [claimed.frame], fun ends => ⟨x, _, from_renewed, ?_, ends⟩⟩
    rw [← count]
    exact claimed

/-- Settles O25: under HOLD the entry waits in its place. -/
theorem entriesBecomeReadyUnderHold : Obligations.EntriesBecomeReadyUnderHold := by
  intro p src tag n act arg e reached s activating held served counted
  obtain ⟨subject, action⟩ := counted.fields
  have pairs : pairing (.line n) act = true := by rcases activating with rfl | rfl <;> rfl
  obtain ⟨x, from_renewed, frame, voting, enough, taken⟩ := counted.counts pairs rfl served
  have hold : x.held = true := by rw [State.held_iff, show x.hold = s.hold by rw [frame, renew_hold], held]
  have activates : e.activates = true := by
    rcases activating with rfl | rfl <;> rw [Entry.activates, subject, action]
  refine ⟨_, rfl, taken _ .ready _ (countVotes_held x e voting enough hold activates) nofun ?_ ?_
    ⟨x, from_renewed, rfl⟩⟩
  · refine served.idle (t := x.putEntry { e with state := .ready }) ?_
    exact (congrArg State.ports frame :).trans (renew_ports s p src)
  · exact (congrArg State.linkAddress frame :).trans (renew_linkAddress s p src)

/-! ### MASTER entries (R97, R101) -/

/-- Settles O29: the hand-off of a REINSTATE writes one mark and raises one notice. -/
theorem reinstateClearsTheMark : Obligations.ReinstateClearsTheMark := by
  intro p src tag k arg e reached s served counted
  obtain ⟨subject, action⟩ := counted.fields
  have passive : e.activates = false := by rw [Entry.activates, subject]
  refine ⟨_, rfl, counted.carries rfl rfl served (.inr passive) nofun fun x from_renewed frame => ?_⟩
  have master (m : MasterId) : x.master m = (renew p src s).master m := by rw [frame]; rfl
  rw [handOff_reinstate subject action]
  refine ⟨rfl, rfl, fun ends =>
    ⟨x, reinstateMaster k x, from_renewed, rfl, ?own, fun m other => ?others, fun m => ?stat, ends⟩⟩
  all_goals rw [reinstateMaster, raiseMasterChanged]
  case own => rw [raise_master, State.setMaster_master_same, master]
  case others => rw [raise_master, State.setMaster_master_other _ _ _ _ other, master]
  case stat =>
    rw [raise_noticed, State.setMaster_stat, State.setMaster_master_same, master]
    refine noticed_congr (fun m => ?_) m _ _
    rw [State.setMaster_master]
    split
    next same => rw [same, master]
    · rfl

/-- The entry that reaches its count stands in a lawful table but for its count, when it is no LINE entry. -/
theorem CountReached.counting {p : PortId} {src : Byte} {sub : Subject} {act : Action} {arg : W16} {e : Entry}
    {reached : State → State → Prop} {s x : State} (h : DecisionInv s) (pairs : pairing sub act = true)
    (off_line : ∀ n, sub ≠ .line n) (off_config : sub ≠ .config)
    (counted : CountReached s p sub act arg e reached) (from_renewed : reached (renew p src s) x) : Counting e x := by
  have renewed := h.renewed p src
  have eligible (free : (s.master p).quarantined = false) : (renew p src s).eligible p = true :=
    (State.eligible_iff _ _).mpr ⟨renew_present p src s, (renew_quarantined ..).trans free⟩
  cases counted with
  | vote e votes =>
    obtain ⟨subject, _, member⟩ := votes.fields
    subst from_renewed
    refine renewed.voteEntry (eligible votes.unquarantined) (renew_table s p src ▸ member) fun k on => ?_
    obtain rfl := subject.symm.trans on
    exact (proposalValid_master (votes.valid off_config) pairs votes.unquarantined).1
  | opened free valid vacant room =>
    have unopposed : ∀ y ∈ (renew p src s).table, y.subject ≠ sub := by
      intro y found
      rw [renew_table] at found
      simpa using List.find?_eq_none.mp vacant y found
    rw [from_renewed.eq_openEntry]
    have counting := renewed.openEntry (eligible free) (keptDuration act arg) pairs
      ((proposalValid_renew _ _ _ _ _ _ _).mpr valid) unopposed (renew_table s p src ▸ room)
    rwa [newEntry_fresh, freshEntry_renew, renew_freeId] at counting
  | superseded _ n _ _ _ on => exact absurd on (off_line n)

/-- A quarantine, said whole: the removal, the mark, and what each master is told (R97, R103). -/
theorem quarantineMaster_removed {s : State} (lines : LineInv s) (law : TableLaw s) (k : MasterId) :
    MasterRemoved k s (quarantineMaster k s) ∧
    (∀ m, (quarantineMaster k s).master m =
      if m = k then { s.master k with quarantined := true } else s.master m) ∧
    Told (removalNotices s k .quarantine .quarantine ++ [.masterChanged k .quarantined (s.master k).presence true])
      (fun m => leaseLost k (ownsALine s k) m ||| if m = k then onlyBit (flagBit .quarantinedEvt) else 0#11)
      s (quarantineMaster k s) := by
  have presence (m : MasterId) :
      ((s.setMaster k { s.master k with quarantined := true }).master m).presence = (s.master m).presence := by
    rw [State.setMaster_master]
    split
    next same => rw [same]
    · rfl
  obtain ⟨removed, master, stat⟩ :=
    removalFanOut_setMaster lines law k { s.master k with quarantined := true } .quarantine
  have fanned : Told (removalNotices s k .quarantine .quarantine) (leaseLost k (ownsALine s k)) s
      (removalFanOut k .quarantine (s.setMaster k { s.master k with quarantined := true })) := by
    refine ⟨fun m => ?_, fun m => ?_⟩
    · rw [master]
      split
      next same => rw [same]
      · rfl
    · rw [stat, told_of_presence presence]
      rfl
  unfold quarantineMaster raiseMasterChanged
  dsimp only
  generalize removalFanOut k .quarantine _ = y at removed master fanned
  refine ⟨removed.congr rfl, master, ?_⟩
  have own : y.master k = { s.master k with quarantined := true } := by rw [master, if_pos rfl]
  rw [setFlag_master, own]
  exact ((fanned.trans (setFlag_told k .quarantinedEvt y)).trans_unmarked (raise_told _ _)).congr
    (by rw [List.append_nil]) fun _ => rfl

/-- Settles O28: the removal said whole, read record by record. -/
theorem quarantineTakesAllThatTheTargetHolds : Obligations.QuarantineTakesAllThatTheTargetHolds := by
  intro p src tag k arg e reached s h served counted
  obtain ⟨subject, action⟩ := counted.fields
  have passive : e.activates = false := by rw [Entry.activates, subject]
  refine ⟨_, rfl, counted.carries rfl rfl served (.inr passive) nofun fun x from_renewed frame => ?_⟩
  have counting := CountReached.counting (sub := .master k) h rfl (fun _ => nofun) nofun counted from_renewed
  obtain ⟨removed, master, told⟩ := quarantineMaster_removed counting.lines counting.tableLaw k
  rw [handOff_quarantine subject action]
  generalize quarantineMaster k x = y at removed master told
  refine ⟨by rw [removed.frame], by rw [removed.frame], fun ends => ?_⟩
  generalize endEntry e .carried y = t at ends
  have law := counting.lines.law
  have before (m : MasterId) : x.master m = (renew p src s).master m := by rw [frame]; rfl
  have line_before (n : LineId) : x.line n = (renew p src s).line n := by rw [frame]; rfl
  have session_before : x.session = (renew p src s).session := by rw [frame]
  have line (n : LineId) : t.line n = y.line n := by rw [ends.frame]; rfl
  have session : t.session = y.session := by rw [ends.frame]
  refine ⟨x, y, from_renewed, removed, ends, ?own, fun m other => ?others, fun m => ?stat, fun n => ?holding,
    fun z left => ?votes, ?session, fun n policy => ?policy, fun n m other owner => ?owner,
    fun n m other => ?asserted, fun m other owner => ?owned⟩
  case own => rw [master, if_pos rfl, before]
  case others => rw [master, if_neg other, before]
  case stat =>
    have owns : ownsALine x k ↔ ownsALine (renew p src s) k := by simp only [ownsALine, line_before]
    rw [told.stat, ← StatusRecord.mark_mark, StatusRecord.mark_ite, leaseLost, StatusRecord.mark_ite, before]
    simp only [owns]
  case holding => rw [line]; exact removed.not_holding law n
  case votes =>
    rw [ends.frame] at left
    obtain ⟨stood, other⟩ := List.mem_filter.mp left
    obtain ⟨z', found, rfl, _, voters⟩ := removed.exists_of_mem stood
    obtain ⟨id, on, _⟩ := unvoted_fields k z'
    refine ⟨by rw [hasBit_unvoted]; simp, ?_, voters⟩
    rw [on, ← subject]
    exact counting.subject_ne z' (List.mem_filter.mpr ⟨found, by rwa [id] at other⟩)
  case session => rw [session]; exact removed.session_owner_ne
  case policy => rw [line, ← line_before]; exact removed.line_of_policy law n (line_before n ▸ policy)
  case owner => rw [line, ← line_before]; exact removed.line_of_other_owner law n other (line_before n ▸ owner)
  case asserted => rw [line, removed.asserted, line_before]; simp [other]
  case owned => rw [session]; exact removed.session_owner other (session_before ▸ owner)

/-! ### The RESTART entry (R42) -/

theorem noticed_seq (s : State) (m : MasterId) (nt : Notice) (r : StatusRecord) : (noticed s m nt r).seq = r.seq := by
  unfold noticed; split <;> simp

/-- A renewal keeps the sequence counters (R88). -/
theorem Renewed.seq {p : PortId} {src : Byte} {s t : State} (renewed : Renewed p src s t) (m : MasterId) :
    (t.stat m).seq = (s.stat m).seq := by
  rw [renewed.status]
  split
  · exact noticed_seq ..
  · rfl

/-- Reaching the count keeps the sequence counters. -/
theorem CountReached.seq {p : PortId} {sub : Subject} {act : Action} {arg : W16} {e : Entry}
    {reached : State → State → Prop} {s r x : State} (counted : CountReached s p sub act arg e reached)
    (after : reached r x) (m : MasterId) : (x.stat m).seq = (r.stat m).seq := by
  cases counted with
  | vote => rw [after]; rfl
  | opened => rw [after.status, noticed_seq]
  | superseded =>
    obtain ⟨y, ends, opens⟩ := after
    rw [opens.status, noticed_seq, ends.status, noticed_seq]

/-- Settles O30: the restart is taken in the renewed state, and its answer goes to a master that is ABSENT again. -/
theorem restartClearsTheDecisionState : Obligations.RestartClearsTheDecisionState := by
  intro p src tag index arg e reached s served counted
  obtain ⟨subject, action⟩ := counted.fields
  have passive : e.activates = false := by rw [Entry.activates, subject]
  obtain ⟨x, from_renewed, frame, voting, enough, taken⟩ := counted.counts rfl trivial served
  have renewed := renew_renewed s p src
  have kept : (commandedRestart x).ports = s.ports := by
    rw [commandedRestart_frame, frame]
    exact renew_ports s p src
  have address : (commandedRestart x).linkAddress = s.linkAddress := by
    rw [commandedRestart_frame, frame]
    exact renew_linkAddress s p src
  have counts := countVotes_carried x e voting enough (.inr passive)
  rw [carry_restart subject action] at counts
  obtain ⟨r, t, _, rfl, answered⟩ := taken (commandedRestart x) .carried (fun _ t => t = commandedRestart x) counts
    nofun (served.idle kept) address rfl
  refine ⟨commandedRestart x, _, rfl, answered, ?frame, fun n => ?line, fun m => ?master, fun m => ?stat⟩
  case frame =>
    rw [commandedRestart_frame, frame, renewed.frame]
  case line =>
    rw [commandedRestart_line, show x.line n = s.line n by rw [frame]; exact renew_line s p src n,
      show x.count = s.count by rw [frame]; exact renew_count s p src]
  case master =>
    rw [commandedRestart_master, show x.master m = (renew p src s).master m by rw [frame]; rfl]
    refine ⟨rfl, rfl, rfl, ?_⟩
    by_cases same : m = p
    · subst same
      rw [renewed.requester, if_pos rfl]
      rfl
    · rw [renewed.others m same, if_neg same]
      rfl
  case stat =>
    rw [commandedRestart_stat, counted.seq from_renewed, renewed.seq]
    rfl

end Sys2Proof.Machine
end

section
/-! PROOFS. Votes taken back and entries that expire (R36, R45, R118). -/

namespace Sys2Proof.Machine

open Sys2Proof

/-- A running part takes the event of a command (R18). -/
theorem whenRunning_running {f : State → State} {s : State} (running : s.rstn = .high) : whenRunning f s = f s := by
  rw [whenRunning, running]

/-- A command whose event changes nothing has no effect. -/
theorem whenRunning_same {f : State → State} {s : State} (same : f s = s) : whenRunning f s = s := by
  unfold whenRunning
  split
  · rfl
  · exact same

/-- A session that returns to EDITING, in the fields of the session (R118). -/
theorem returnToEditing_session_eq (s : State) :
    returnToEditing s = { s with session := match s.session with
      | .voting o sh rev => .editing o sh rev ⟨s.count, 10000#16⟩
      | other => other } := by
  obtain ⟨_, _, _, _, _, _, _, _, _, _, _, session, _, _, _, _⟩ := s
  cases session <;> rfl

/-- What taking a vote back does to its entry (R36): it ends, or stays with the state its count gives it. -/
theorem takeVote_outcome (m : MasterId) (e : Entry) (s : State) :
    ((removeBit e.voters m.val = 0#4 ∧ e.subject ≠ .config ∧
        EntryEnds { e with voters := removeBit e.voters m.val } .withdrawn s (takeVote m e s)) ∨
      (removeBit e.voters m.val = 0#4 ∧ e.subject = .config ∧
        ∃ x, EntryEnds { e with voters := removeBit e.voters m.val } .withdrawn s x ∧
          takeVote m e s = returnToEditing x) ∨
      (removeBit e.voters m.val ≠ 0#4 ∧
        takeVote m e s = replaced s { e with
          voters := removeBit e.voters m.val
          state := if e.state = .ready ∧ masterCount (removeBit e.voters m.val) < e.required.toNat
            then .voting else e.state })) := by
  by_cases last : removeBit e.voters m.val = 0#4
  · rw [takeVote, if_pos last]
    by_cases config : e.subject = .config
    · exact .inr (.inl ⟨last, config, endEntry_apply s _ .withdrawn config (.inr rfl)⟩)
    · exact .inl ⟨last, config, endEntry_ends s _ .withdrawn config⟩
  · refine .inr (.inr ⟨last, ?_⟩)
    rw [takeVote, if_neg last]
    by_cases falls : e.state = .ready ∧ masterCount (removeBit e.voters m.val) < e.required.toNat
    · refine (if_pos falls).trans ?_
      rw [if_pos falls]; rfl
    · refine (if_neg falls).trans ?_
      rw [if_neg falls]; rfl

/-- Settles O32: the refusals of WITHDRAW, and the three outcomes of a vote taken back. -/
theorem withdrawRemovesTheVote : Obligations.WithdrawRemovesTheVote := by
  intro p src tag id s served
  refine ⟨fun marked => ?marked, fun free unvoted => ?unvoted, fun e rest free found voter left => ?taken⟩
  case marked =>
    refine ⟨_, rfl, requestEvent_refused s p src tag .withdraw [id] (.withdraw id) _ _ served rfl rfl ?_ nofun⟩
    simp [dispatch, reqWithdraw, marked, refuse]
  case unvoted =>
    refine ⟨_, rfl, requestEvent_refused s p src tag .withdraw [id] (.withdraw id) _ _ served rfl rfl ?_ nofun⟩
    cases found : s.entryById id with
    | none => simp [dispatch, reqWithdraw, free, found, refuse]
    | some e => simp [dispatch, reqWithdraw, free, found, refuse, unvoted e found]
  case taken =>
    obtain rfl := left
    have frame := takeVote_frame (renew p src s) p e
    have outcome := takeVote_outcome p e (renew p src s)
    have answer : dispatch p ((s.master p).presence = .absent) (.withdraw id) (renew p src s) =
        (takeVote p e (renew p src s), ⟨.done, [id, byteOf (masterCount (removeBit e.voters p.val))]⟩) := by
      simp [dispatch, reqWithdraw, free, found, voter]
    generalize takeVote p e (renew p src s) = t at frame outcome answer
    refine ⟨_, rfl, requestEvent_taken_of_ports s p src tag .withdraw [id] (.withdraw id) t _ _ _ served rfl rfl answer
      nofun ?_ ?_ (outcome.imp_right (.imp_left fun ⟨last, config, x, ends, back⟩ => ⟨last, config, x, ends, ?_⟩)) rfl⟩
    · exact (congrArg State.ports frame :).trans (renew_ports s p src)
    · exact (congrArg State.linkAddress frame :).trans (renew_linkAddress s p src)
    · rw [show (renew p src s).count = x.count by rw [ends.frame]]
      exact back.trans (returnToEditing_session_eq x)

theorem exec_entryDeadline {id : Byte} {e : Entry} {s : State} (running : s.rstn = .high)
    (found : s.entryById id = some e) (reached : e.deadline.reached s.count = true) :
    exec (.entryDeadline id) s = .next (endEntry e .expired s) := by
  refine congrArg Host.Outcome.next ((whenRunning_running running).trans ?_)
  simp only [entryDeadlineEvent, found, reached, if_true]

/-- Settles O33: the entry ends, and an APPLY entry gives its session back. -/
theorem entryDeadlineExpiresTheEntry : Obligations.EntryDeadlineExpiresTheEntry := by
  intro id e s running found reached
  rw [exec_entryDeadline running found reached]
  refine ⟨fun stays => ⟨_, rfl, endEntry_ends s e .expired stays⟩, fun config o sh rev voting => ?_⟩
  obtain ⟨x, ends, back⟩ := endEntry_apply s e .expired config (.inl rfl)
  refine ⟨x, ends, ?_⟩
  rw [back, returnToEditing_session_eq, show x.session = .voting o sh rev by rw [ends.frame]; exact voting,
    show x.count = s.count by rw [ends.frame]]

/-- Settles O39: the idle deadline writes the session alone. -/
theorem idleDeadlineEndsTheSession : Obligations.IdleDeadlineEndsTheSession := by
  intro o sh rev d s running editing reached
  refine congrArg Host.Outcome.next ((whenRunning_running running).trans ?_)
  simp only [idleDeadlineEvent, editing, reached, if_true]
  rfl

/-- A deadline that is absent or not reached is not due. -/
theorem State.not_due {s : State} {d : Option Deadline} (early : ∀ x, d = some x → x.reached s.count = false) :
    s.due d = false := by
  cases d with
  | none => rfl
  | some x => exact early x rfl

/-- Settles O14: none of the six events is taken before its deadline. -/
theorem deadlinesNotReachedChangeNothing : Obligations.DeadlinesNotReachedChangeNothing := by
  intro s
  have late {c : Bool} {x : State} (early : c = false) : (if c then x else s) = s := by rw [early]; rfl
  have early_same {d : Option Deadline} {x : State} (early : ∀ y, d = some y → y.reached s.count = false) :
      (if s.due d then x else s) = s := late (State.not_due early)
  refine ⟨fun n early => congrArg _ (whenRunning_same (early_same early)),
    fun n early => congrArg _ (whenRunning_same (early_same early)),
    fun n early => congrArg _ (whenRunning_same (early_same early)),
    fun m early => congrArg _ (whenRunning_same (early_same early)),
    fun id early => congrArg _ (whenRunning_same ?entry), fun early => congrArg _ (whenRunning_same ?session)⟩
  case entry =>
    unfold entryDeadlineEvent
    split
    · rfl
    next e found =>
      exact late (early e (List.mem_of_find?_eq_some found) (by simpa using List.find?_some found))
  case session =>
    unfold idleDeadlineEvent
    split
    next o sh rev d editing => exact late (early o sh rev d editing)
    · rfl

end Sys2Proof.Machine
end

section
/-! PROOFS. Configuration sessions (R110 to R116, R124): the requests that open, write, commit and close one, and what
refuses them. -/

namespace Sys2Proof.Machine

open Sys2Proof

/-! ### The commands of the table -/

/-- A request command is the event of its request, and its parameters have the length of its code (R193). -/
theorem exec_request {c : Instr} {p : PortId} {src tag : Byte} {code : RequestCode} {params : List Byte}
    (request : requestOf c = some (p, src, tag, code, params)) (s : State) :
    exec c s = .next (requestEvent p src tag code params s) ∧ params.length = code.paramLength := by
  cases c <;> simp only [requestOf, Option.some.injEq, Prod.mk.injEq, reduceCtorEq] at request
  all_goals
    obtain ⟨rfl, rfl, rfl, rfl, rfl⟩ := request
    exact ⟨rfl, rfl⟩

section

variable {p : PortId} {src tag : Byte} {code : RequestCode} {params : List Byte} {s : State}

/-- A request that its unit answers with a change of the session alone. -/
theorem sessionRequest_taken {q : Request} {x : Session} {a : Answer} {effect : State → State → Prop}
    {ans : State → State → Answer} (served : Served p src tag code params s)
    (length : params.length = code.paramLength) (decoded : decodeFields code params = .ok q)
    (answer : dispatch p ((s.master p).presence = .absent) q (renew p src s) = ((renew p src s).setSession x, a))
    (status : a.status ≠ .code) (holds : effect (renew p src s) ((renew p src s).setSession x))
    (same : ans (renew p src s) ((renew p src s).setSession x) = a) :
    RequestTaken p src tag code params effect ans s (requestEvent p src tag code params s) :=
  requestEvent_taken_of_ports s p src tag code params q _ a effect ans served length decoded answer status
    (renew_ports s p src) (renew_linkAddress s p src) holds same

end

/-! ### Opening and closing (R112, R124) -/

/-- Settles O34: a session opens on a copy, and closes with its entry. -/
theorem sessionsOpenAndClose : Obligations.SessionsOpenAndClose := by
  intro p src tag s free
  refine ⟨fun vacant served => ?opened, fun ⟨sh, rev, d, editing⟩ served => ?closed,
    fun e ⟨sh, rev, voting⟩ found served => ?cancelled⟩
  case opened =>
    refine ⟨_, rfl, sessionRequest_taken (q := .openConfig) (a := ⟨.done, wordBytes (renew p src s).generation⟩)
      served rfl rfl ?_ nofun rfl rfl⟩
    simp only [dispatch, reqOpenConfig, renew_quarantined, free, renew_session, vacant]
    rfl
  case closed =>
    refine ⟨_, rfl, sessionRequest_taken (q := .closeConfig) (x := .none) (a := ⟨.done, []⟩) served rfl rfl ?_ nofun
      rfl rfl⟩
    simp only [dispatch, reqCloseConfig, renew_quarantined, free, endSession, renew_session, editing, Session.owner?]
    rfl
  case cancelled =>
    have ends := endEntry_ends_of_outcome ((renew p src s).setSession .none) e .cancelled nofun nofun
    have answer : dispatch p ((s.master p).presence = .absent) .closeConfig (renew p src s) =
        (endEntry e .cancelled ((renew p src s).setSession .none), ⟨.done, []⟩) := by
      have found' : ((renew p src s).setSession .none).entryOn .config = some e :=
        (renew_entryOn s p src .config).trans found
      simp only [dispatch, reqCloseConfig, renew_quarantined, free, endSession, renew_session, voting, Session.owner?,
        cancelOn, found']
      rfl
    generalize endEntry e .cancelled ((renew p src s).setSession .none) = t at ends answer
    refine ⟨_, rfl, requestEvent_taken_of_ports s p src tag .closeConfig [] .closeConfig t _ _ _ served rfl rfl answer
      nofun ?_ ?_ ends rfl⟩
    · exact (congrArg State.ports ends.frame :).trans (renew_ports s p src)
    · exact (congrArg State.linkAddress ends.frame :).trans (renew_linkAddress s p src)

/-! ### Writing (R113 to R115) -/

theorem within_iff (lo hi x : Nat) : within lo hi x = true ↔ lo ≤ x ∧ x ≤ hi := by
  simp [within]

/-- The ranges of the line fields (R113). -/
theorem lineFieldOk_iff (b : LineBlock) {i : Nat} (field : i < 7) :
    lineFieldOk b i = true ↔ lineFieldValid b i := by
  have settle : b.settle.toNat ≤ 255 := Nat.le_of_lt_succ b.settle.isLt
  interval_cases i <;> simp [lineFieldOk, lineFieldValid, within_iff, settle]

/-- The ranges of the global parameters (R114). -/
theorem globalFieldOk_iff (b : GlobalBlock) {i : Nat} (field : i < 6) :
    globalFieldOk b i = true ↔ globalFieldValid b i := by
  interval_cases i <;> simp [globalFieldOk, globalFieldValid, within_iff]

section

variable {select : Byte} {ok : Nat → Bool} {valid : Nat → Prop} {k : Nat}
  (iff : ∀ {i}, i < k → (ok i = true ↔ valid i))

include iff

/-- Every selected field is in its range (R113). -/
theorem firstRefused_none (all : ∀ i, i < k → hasBit select i = true → valid i) :
    firstRefused (List.range k) select ok = none := by
  refine List.find?_eq_none.mpr fun i member => ?_
  have field := List.mem_range.mp member
  simp only [Bool.and_eq_true, Bool.not_eq_true', not_and, Bool.not_eq_false]
  exact fun selected => (iff field).mpr (all i field selected)

/-- The first selected field outside its range (R113). -/
theorem firstRefused_some {i : Nat} (bad : FirstBad select valid k i) :
    firstRefused (List.range k) select ok = some i := by
  obtain ⟨field, selected, invalid, before⟩ := bad
  refine List.find?_range_eq_some.mpr ⟨?_, List.mem_range.mpr field, fun j earlier => ?_⟩
  · simpa [selected] using mt (iff field).mp invalid
  · simp only [Bool.not_eq_true', Bool.and_eq_false_iff, Bool.not_eq_false']
    by_cases chosen : hasBit select j = true
    · exact .inr ((iff (earlier.trans field)).mpr (before j earlier chosen))
    · exact .inl (by simpa using chosen)

end

/-- A selected field takes the value of its block where they read it alike, and the others stay (R113). -/
theorem writeLineFields_eq {select : Byte} {b : LineBlock}
    (all : ∀ i, i < 7 → hasBit select i = true → lineFieldValid b i) (c : LineConfig) : writeLineFields select b c =
      { policy := if hasBit select 0 then policyOf b.policy else c.policy
        quorum := if hasBit select 1 then b.quorum else c.quorum
        safe := if hasBit select 2 then (if b.safe = 1#8 then .high else .low) else c.safe
        pulseMax := if hasBit select 3 then b.pulseMax else c.pulseMax
        leaseMax := if hasBit select 4 then b.leaseMax else c.leaseMax
        feedback := if hasBit select 5 then decide (b.feedback = 1#8) else c.feedback
        settle := if hasBit select 6 then b.settle else c.settle } := by
  have bit {x : Byte} (small : x.toNat ≤ 1) : x = 0#8 ∨ x = 1#8 := by
    rcases Nat.le_one_iff_eq_zero_or_eq_one.mp small with zero | one
    · exact .inl (BitVec.eq_of_toNat_eq zero)
    · exact .inr (BitVec.eq_of_toNat_eq one)
  have safe : (if hasBit select 2 then levelOf b.safe else c.safe) =
      if hasBit select 2 then (if b.safe = 1#8 then .high else .low) else c.safe := by
    refine if_ctx_congr Iff.rfl (fun selected => ?_) fun _ => rfl
    rcases bit (all 2 (by decide) selected) with zero | one
    · rw [zero]; rfl
    · rw [one]; rfl
  have feedback : (if hasBit select 5 then b.feedback != 0#8 else c.feedback) =
      if hasBit select 5 then decide (b.feedback = 1#8) else c.feedback := by
    refine if_ctx_congr Iff.rfl (fun selected => ?_) fun _ => rfl
    rcases bit (all 5 (by decide) selected) with zero | one
    · rw [zero]; rfl
    · rw [one]; rfl
  rw [writeLineFields, safe, feedback]

section

variable {p : MasterId} {sh : Configuration} {rev : W16} {d : Deadline} {s : State}
  {bad : Option Nat} (write : Configuration → Configuration) (free : (s.master p).quarantined = false)
  (editing : s.session = .editing p sh rev d)

include free editing

/-- A write of the owner in EDITING with a refused field (R110, R113). -/
theorem takeWrite_refused {i : Nat} (refused : bad = some i) : takeWrite p bad write s =
    (s.setSession (.editing p sh rev ⟨s.count, 10000#16⟩), ⟨.range, [byteOf i]⟩) := by
  subst refused
  simp only [takeWrite, free, editing, touchSession_editing editing]
  simp

/-- A write of the owner in EDITING at the last revision (R115). -/
theorem takeWrite_last (fits : bad = none) (last : rev = 0xFFFF#16) : takeWrite p bad write s =
    (s.setSession (.editing p sh rev ⟨s.count, 10000#16⟩), ⟨.range, [0xFF#8]⟩) := by
  subst fits
  simp only [takeWrite, free, editing, touchSession_editing editing]
  simp [last]

/-- A write of the owner in EDITING that is taken (R113, R114, R115). -/
theorem takeWrite_taken (fits : bad = none) (counts : rev ≠ 0xFFFF#16) : takeWrite p bad write s =
    (s.setSession (.editing p (write sh) (rev + 1#16) ⟨s.count, 10000#16⟩), ⟨.done, wordBytes (rev + 1#16)⟩) := by
  subst fits
  simp only [takeWrite, free, editing]
  simp only [ne_eq, not_true_eq_false, if_false, counts, Bool.false_eq_true]
  rfl

end

theorem decodeFields_lineConfigParams (n : LineId) (select : Byte) (b : LineBlock) :
    decodeFields .writeLineConfig (lineConfigParams (lineByte n) select b) = .ok (.writeLineConfig n select b) := by
  show decodeFields .writeLineConfig [_, _, _, _, _, _, _, _, _, _, _] = _
  rw [decodeFields_writeLineConfig, onLine_lineByte, bytesWord_wordBytes, bytesWord_wordBytes]

theorem decodeFields_globalConfigParams (select : Byte) (b : GlobalBlock) :
    decodeFields .writeGlobalConfig (globalConfigParams select b) = .ok (.writeGlobalConfig select b) := by
  show decodeFields .writeGlobalConfig [_, _, _, _, _, _, _, _, _] = _
  rw [decodeFields_writeGlobalConfig, bytesWord_wordBytes, bytesWord_wordBytes]

/-- Settles O35: the selected fields are in range, so the write is taken. -/
theorem writesAreTakenIntoTheShadow : Obligations.WritesAreTakenIntoTheShadow := by
  intro p src tag select sh rev d s free editing counts
  have free' : ((renew p src s).master p).quarantined = false := (renew_quarantined ..).trans free
  have editing' : (renew p src s).session = .editing p sh rev d := (renew_session ..).trans editing
  refine ⟨fun n b params request served all => ?line, fun b params request served all => ?globals⟩
  case line =>
    cases request
    refine ⟨_, rfl, sessionRequest_taken served rfl (decodeFields_lineConfigParams n select b)
      (takeWrite_taken _ free' editing' (firstRefused_none (lineFieldOk_iff b) all) counts) nofun ?_ rfl⟩
    rw [writeLineFields_eq all]
  case globals =>
    cases request
    exact ⟨_, rfl, sessionRequest_taken served rfl (decodeFields_globalConfigParams select b)
      (takeWrite_taken _ free' editing' (firstRefused_none (globalFieldOk_iff b) all) counts) nofun rfl rfl⟩

/-- Settles O36: the first field out of range, or the last revision, refuses the write and renews the deadline. -/
theorem writesOutOfRangeAreRefused : Obligations.WritesOutOfRangeAreRefused := by
  intro p src tag select sh rev d s c code params valid fields free editing request served kind
  have free' : ((renew p src s).master p).quarantined = false := (renew_quarantined ..).trans free
  have editing' : (renew p src s).session = .editing p sh rev d := (renew_session ..).trans editing
  rcases kind with ⟨n, b, rfl, rfl, rfl⟩ | ⟨b, rfl, rfl, rfl⟩
  · cases request
    have decoded := decodeFields_lineConfigParams n select b
    refine ⟨fun i bad => ⟨_, rfl, ?_⟩, fun all last => ⟨_, rfl, ?_⟩⟩
    · exact sessionRequest_taken served rfl decoded
        (takeWrite_refused _ free' editing' (firstRefused_some (lineFieldOk_iff b) bad)) nofun rfl rfl
    · exact sessionRequest_taken served rfl decoded
        (takeWrite_last _ free' editing' (firstRefused_none (lineFieldOk_iff b) all) last) nofun rfl rfl
  · cases request
    have decoded := decodeFields_globalConfigParams select b
    refine ⟨fun i bad => ⟨_, rfl, ?_⟩, fun all last => ⟨_, rfl, ?_⟩⟩
    · exact sessionRequest_taken served rfl decoded
        (takeWrite_refused _ free' editing' (firstRefused_some (globalFieldOk_iff b) bad)) nofun rfl rfl
    · exact sessionRequest_taken served rfl decoded
        (takeWrite_last _ free' editing' (firstRefused_none (globalFieldOk_iff b) all) last) nofun rfl rfl

/-! ### Committing (R116) -/

/-- The APPLY entry that a commit at a revision opens (R116). -/
def applyEntry (s : State) (p : MasterId) (rev : W16) : Entry :=
  { freshEntry s s.freeId p .config .apply rev with revision := some rev }

theorem applyEntry_count (s : State) (p : MasterId) (rev : W16) : (applyEntry s p rev).count = 1 :=
  masterCount_onlyBit p

theorem applyEntry_renew (s : State) (p : MasterId) (src : Byte) (rev : W16) :
    applyEntry (renew p src s) p rev = applyEntry s p rev := by
  rw [applyEntry, freshEntry_renew, renew_freeId, applyEntry]

/-- A commit of the owner in EDITING opens the APPLY entry and counts its first vote (R116). -/
theorem reqCommitConfig_opens {p : MasterId} {sh : Configuration} {rev : W16} {d : Deadline} {s : State}
    (free : (s.master p).quarantined = false) (editing : s.session = .editing p sh rev d)
    (room : s.table.length < 12) :
    reqCommitConfig p s =
      ((countVotes (applyEntry s p rev) (openEntry (applyEntry s p rev) (s.setSession (.voting p sh rev)))).1,
        ⟨(countVotes (applyEntry s p rev) (openEntry (applyEntry s p rev) (s.setSession (.voting p sh rev)))).2,
          voteResult (applyEntry s p rev) ++ wordBytes rev⟩) := by
  have unfull : s.tableFull = false := decide_eq_false (Nat.not_le.mpr room)
  simp only [reqCommitConfig, free, editing, unfull, ne_eq, not_true_eq_false, Bool.false_eq_true, if_false]
  rfl

/-- Settles O37: the commit opens the APPLY entry, or finds the table full. -/
theorem commitOpensTheApplyEntry : Obligations.CommitOpensTheApplyEntry := by
  intro p src tag sh rev d s served free editing
  have free' : ((renew p src s).master p).quarantined = false := (renew_quarantined ..).trans free
  have editing' : (renew p src s).session = .editing p sh rev d := (renew_session ..).trans editing
  refine ⟨fun room quorum => ⟨_, rfl, ?opened⟩, fun full => ⟨_, rfl, ?full⟩⟩
  case opened =>
    have opens := openEntry_opens ((renew p src s).setSession (.voting p sh rev)) (applyEntry (renew p src s) p rev)
    have answer := reqCommitConfig_opens free' editing' (renew_table s p src ▸ room)
    have below : (applyEntry (renew p src s) p rev).count < (applyEntry (renew p src s) p rev).required.toNat := by
      rw [applyEntry_count, applyEntry_renew]
      exact quorum
    rw [countVotes_voted _ _ rfl below, voteResult, applyEntry_count] at answer
    generalize openEntry _ ((renew p src s).setSession (.voting p sh rev)) = t at opens answer
    refine requestEvent_taken_of_ports s p src tag .commitConfig [] .commitConfig t _ _ _ served rfl rfl answer nofun
      ?_ ?_ ?_ ?_
    · exact (congrArg State.ports opens.frame :).trans (renew_ports s p src)
    · exact (congrArg State.linkAddress opens.frame :).trans (renew_linkAddress s p src)
    · rw [← renew_freeId s p src]; exact opens
    · rw [← renew_freeId s p src]; rfl
  case full =>
    have filled : (renew p src s).tableFull = true := by
      rw [renew_tableFull]
      exact decide_eq_true full
    refine sessionRequest_taken (q := .commitConfig) (a := ⟨.tableFull, []⟩) served rfl rfl ?_ nofun rfl rfl
    simp only [dispatch, reqCommitConfig, renew_quarantined, free, editing', filled, touchSession_editing editing']
    simp

/-! ### Refusals by the session (R100, R110 to R112) -/

/-- The requests that a session decides. -/
inductive SessionRequest : RequestCode → Request → Prop
  | openConfig : SessionRequest .openConfig .openConfig
  | writeLine (n : LineId) (select : Byte) (b : LineBlock) :
      SessionRequest .writeLineConfig (.writeLineConfig n select b)
  | writeGlobal (select : Byte) (b : GlobalBlock) :
      SessionRequest .writeGlobalConfig (.writeGlobalConfig select b)
  | commit : SessionRequest .commitConfig .commitConfig
  | close : SessionRequest .closeConfig .closeConfig

/-- The commands of those requests decode to them. -/
theorem sessionRequest_decoded {p : PortId} {src tag : Byte} {c : Instr} {code : RequestCode} {params : List Byte}
    (request : requestOf c = some (p, src, tag, code, params))
    (kind : code = .openConfig ∨ (∃ n sel b, c = .writeLineConfig p src tag (lineByte n) sel b) ∨
      code = .writeGlobalConfig ∨ code = .commitConfig ∨ code = .closeConfig) :
    ∃ q, decodeFields code params = .ok q ∧ SessionRequest code q := by
  rcases kind with rfl | ⟨n, select, b, rfl⟩ | rfl | rfl | rfl
  case inr.inl =>
    cases request
    exact ⟨_, decodeFields_lineConfigParams n select b, .writeLine n select b⟩
  all_goals cases c <;> simp only [requestOf, Option.some.injEq, Prod.mk.injEq, reduceCtorEq, and_false,
    false_and] at request
  all_goals obtain ⟨rfl, rfl, rfl, -, rfl⟩ := request
  · exact ⟨_, rfl, .openConfig⟩
  · exact ⟨_, decodeFields_globalConfigParams _ _, .writeGlobal _ _⟩
  · exact ⟨_, rfl, .commit⟩
  · exact ⟨_, rfl, .close⟩

namespace SessionRequest

variable {code : RequestCode} {q : Request} {p : MasterId} {s : State} {admitted : Bool}

/-- A quarantined master is refused first (R100, R111). -/
theorem quarantined (session : SessionRequest code q) (marked : (s.master p).quarantined = true) :
    dispatch p admitted q s = refuse .quarantined s := by
  cases session with
  | openConfig => simp only [dispatch, reqOpenConfig, marked, if_true]
  | writeLine => simp only [dispatch, reqWriteLineConfig, takeWrite, marked, if_true]
  | writeGlobal => simp only [dispatch, reqWriteGlobalConfig, takeWrite, marked, if_true]
  | commit => simp only [dispatch, reqCommitConfig, marked, if_true]
  | close => simp only [dispatch, reqCloseConfig, marked, if_true]

theorem takeWrite_noSession (free : (s.master p).quarantined = false) (stranger : s.session.owner? ≠ some p)
    (bad : Option Nat) (write : Configuration → Configuration) : takeWrite p bad write s = refuse .noSession s := by
  cases session : s.session <;> simp_all [takeWrite, Session.owner?]

theorem takeWrite_frozen (free : (s.master p).quarantined = false) (voting : ownsVoting s p) (bad : Option Nat)
    (write : Configuration → Configuration) : takeWrite p bad write s = refuse .frozen s := by
  obtain ⟨sh, rev, voting⟩ := voting
  simp [takeWrite, free, voting]

/-- A master that owns no session is refused next (R111). -/
theorem noSession (session : SessionRequest code q) (free : (s.master p).quarantined = false)
    (other : code ≠ .openConfig) (stranger : s.session.owner? ≠ some p) :
    dispatch p admitted q s = refuse .noSession s := by
  cases session with
  | openConfig => exact absurd rfl other
  | writeLine => exact takeWrite_noSession free stranger _ _
  | writeGlobal => exact takeWrite_noSession free stranger _ _
  | commit => cases standing : s.session <;> simp_all [dispatch, reqCommitConfig, Session.owner?]
  | close => simp [dispatch, reqCloseConfig, free, stranger]

/-- The owner is refused a write or a second commit while its session is frozen (R110, R111). -/
theorem frozen (session : SessionRequest code q) (free : (s.master p).quarantined = false)
    (not_open : code ≠ .openConfig) (not_close : code ≠ .closeConfig) (voting : ownsVoting s p) :
    dispatch p admitted q s = refuse .frozen s := by
  cases session with
  | openConfig => exact absurd rfl not_open
  | writeLine => exact takeWrite_frozen free voting _ _
  | writeGlobal => exact takeWrite_frozen free voting _ _
  | commit =>
    obtain ⟨sh, rev, voting⟩ := voting
    simp [dispatch, reqCommitConfig, free, voting]
  | close => exact absurd rfl not_close

end SessionRequest

/-- OPEN_CONFIG with a session open: BUSY, and the owner in EDITING renews its deadline (R110, R112). -/
theorem reqOpenConfig_busy {p o : MasterId} {s : State} (free : (s.master p).quarantined = false)
    (owner : s.session.owner? = some o) : reqOpenConfig p s =
      (s.setSession (match s.session with
          | .editing o sh rev d => .editing o sh rev (if o = p then ⟨s.count, 10000#16⟩ else d)
          | other => other),
        ⟨.busy, [masterByte o, s.session.stateByte]⟩) := by
  obtain ⟨_, _, _, _, _, _, _, _, _, _, _, session, _, _, _, _⟩ := s
  cases session with
  | none => nomatch owner
  | editing o' sh rev d =>
    obtain rfl := Option.some.inj owner
    simp only [reqOpenConfig, touchSession]
    rw [free]
    by_cases own : o' = p
    · simp only [own, if_true]; rfl
    · simp only [own, if_false]; rfl
  | voting o' sh rev =>
    obtain rfl := Option.some.inj owner
    simp only [reqOpenConfig]
    rw [free]
    rfl

/-- Settles O38: each refusal by what its unit answers in the renewed state. -/
theorem sessionRequestsAreRefusedByTheSession : Obligations.SessionRequestsAreRefusedByTheSession := by
  intro p src tag s c code params request served
  obtain ⟨command, length⟩ := exec_request request s
  have marks := renew_quarantined s p src p
  have session := renew_session s p src
  refine ⟨fun kind => ?decided, fun opens free o owner => ?busy, fun ⟨t, read⟩ vacant => ?shadow⟩
  case decided =>
    obtain ⟨q, decoded, kind⟩ := sessionRequest_decoded request kind
    have refused {st : Status} (status : st ≠ .code)
        (answer : dispatch p ((s.master p).presence = .absent) q (renew p src s) = refuse st (renew p src s)) :
        ∃ u, exec c s = .next u ∧ RequestRefused p src tag code params st (fun _ => []) s u :=
      ⟨_, command, requestEvent_refused s p src tag code params q st _ served length decoded answer status⟩
    refine ⟨fun marked => ?_, fun free other stranger => ?_, fun free not_open not_close ⟨sh, rev, voting⟩ => ?_⟩
    · exact refused nofun (kind.quarantined (marks.trans marked))
    · exact refused nofun (kind.noSession (marks.trans free) other (session ▸ stranger))
    · exact refused nofun (kind.frozen (marks.trans free) not_open not_close ⟨sh, rev, session.trans voting⟩)
  case busy =>
    obtain ⟨q, decoded, kind⟩ := sessionRequest_decoded request (.inl opens)
    subst opens
    cases kind
    exact ⟨_, command, sessionRequest_taken served length decoded
      (reqOpenConfig_busy (marks.trans free) (session ▸ owner)) nofun rfl rfl⟩
  case shadow =>
    subst read
    cases request
    refine ⟨_, command, requestEvent_refused s p src tag .readShadow _ (.readShadow t) .noSession _ served rfl ?_ ?_
      nofun⟩
    · rw [decodeFields_readShadow, onTarget_byte]
    · simp only [dispatch, reqReadShadow, session, vacant]
      rfl

end Sys2Proof.Machine
end

section
/-! PROOFS. HEARTBEAT, READ_STATUS, SUBSCRIBE and RESYNC (R90, R149, R157 to R159). -/

namespace Sys2Proof.Machine

open Sys2Proof

/-- Settles O40: the renewal is the whole effect. -/
theorem heartbeatRenewsItsMaster : Obligations.HeartbeatRenewsItsMaster := by
  intro p src tag s served
  refine ⟨_, rfl, requestEvent_refused s p src tag .heartbeat [] .heartbeat .done _ served rfl rfl ?_ nofun⟩
  simp [dispatch, reqHeartbeat, boolByte]

/-- Presence and quarantine marks as eight bits of one byte (R157). -/
theorem foldl_mastersByte (present marked : MasterId → Bool) :
    (allMasters.foldl (fun b m =>
      let b1 := if present m = true then addBit b m.val else b
      if marked m = true then addBit b1 (4 + m.val) else b1) (0#8 : Byte)) =
    byteOf ((allMasters.map fun m =>
      (if present m = true then 2 ^ m.val else 0) + (if marked m = true then 2 ^ (4 + m.val) else 0)).sum) := by
  have masters : allMasters = [0, 1, 2, 3] := rfl
  simp only [masters, List.foldl_cons, List.foldl_nil, List.map_cons, List.map_nil, List.sum_cons, List.sum_nil]
  generalize present 0 = a, present 1 = b, present 2 = c, present 3 = d, marked 0 = e, marked 1 = f,
    marked 2 = g, marked 3 = h
  revert a b c d e f g h
  decide

theorem mastersByte_eq (s : State) : mastersByte s =
    byteOf ((allMasters.map fun m =>
      (if (s.master m).presence = .present then 2 ^ m.val else 0) +
      (if (s.master m).quarantined = true then 2 ^ (4 + m.val) else 0)).sum) := by
  simpa [mastersByte] using foldl_mastersByte (fun m => decide ((s.master m).presence = .present)) fun m =>
    (s.master m).quarantined

theorem RestartCause.byte_eq (c : RestartCause) : c.byte = if c = .commanded then 1#8 else 0#8 := by
  cases c <;> rfl

/-- Bits 7 and 6 of a mask byte are not read (R194). -/
theorem setWidth_mask (mask : Byte) : (mask.setWidth 6).setWidth 8 = mask &&& 0x3F#8 := by
  refine BitVec.eq_of_toNat_eq ?_
  have low := Nat.and_two_pow_sub_one_eq_mod mask.toNat 6
  simp only [BitVec.toNat_setWidth, BitVec.toNat_and]
  rw [Nat.mod_eq_of_lt (by omega), ← low]
  rfl

/-- Settles O42: each by its unit's answer, whose bytes are those of section 10.3. -/
theorem statusRequestsReportAndClear : Obligations.StatusRequestsReportAndClear := by
  intro p src tag s
  refine ⟨fun served => ⟨_, rfl, ?status⟩, fun mask served => ⟨_, rfl, ?mask⟩, fun served => ⟨_, rfl, ?resync⟩⟩
  case status =>
    refine requestEvent_taken_of_ports s p src tag .readStatus [] .readStatus _ _ _ _ served rfl rfl rfl nofun
      (renew_ports s p src) (renew_linkAddress s p src) rfl ?_
    simp only [statusResult, HoldLevel.byte_eq, RestartCause.byte_eq, mastersByte_eq, flagBytes]
  case mask =>
    refine requestEvent_taken_of_ports s p src tag .subscribe [mask] (.subscribe (mask.setWidth 6)) _ _ _ _ served rfl
      rfl rfl nofun (renew_ports s p src) (renew_linkAddress s p src) rfl ?_
    rw [← setWidth_mask]
  case resync =>
    refine requestEvent_taken s p src tag .resync [] .resync _ _ _ _ served rfl rfl rfl nofun ?_
      (renew_linkAddress s p src) ⟨_, rfl, rfl⟩ rfl
    rw [State.setStat_port, State.updPort_port_same]
    exact served.idle (renew_ports s p src)

end Sys2Proof.Machine
end

section
/-! PROOFS. Decoding (R140, R193 to R195): what it refuses, and that every request is read back from its packet. -/

namespace Sys2Proof.Machine

open Sys2Proof

/-! ### Values outside their sets (R195) -/

theorem lineOf_none {b : Byte} (above : 16 ≤ b.toNat) : lineOf b = none :=
  dif_neg (Nat.not_lt.mpr above)

theorem masterOf_none {b : Byte} (above : 4 ≤ b.toNat) : masterOf b = none :=
  dif_neg (Nat.not_lt.mpr above)

theorem onTarget_range (b : Byte) (f : Target → Request) (above : 17 ≤ b.toNat) : onTarget b f = .error .range := by
  have not_globals : b ≠ 0x10#8 := by
    rintro rfl
    exact absurd above (by decide)
  rw [onTarget, targetOf, lineOf_none (by omega)]
  simp only [if_neg not_globals]

/-- A subject outside its set is refused (R22, R195). -/
theorem subjectOf_none {kind index : Byte}
    (outside : 4 ≤ kind.toNat ∨ (kind = 0#8 ∧ 16 ≤ index.toNat) ∨ (kind = 1#8 ∧ 4 ≤ index.toNat)) :
    subjectOf kind index = none := by
  rcases outside with above | ⟨rfl, above⟩ | ⟨rfl, above⟩
  · have ne (k : Nat) (small : k < 4) : kind ≠ BitVec.ofNat 8 k := by
      rintro rfl
      rw [BitVec.toNat_ofNat] at above
      omega
    rw [subjectOf, if_neg (ne 0 (by decide)), if_neg (ne 1 (by decide)), if_neg (ne 2 (by decide)),
      if_neg (ne 3 (by decide))]
  · simp [subjectOf, lineOf_none above]
  · simp [subjectOf, masterOf_none above]

/-- An action outside the pairings of its kind is refused (R22, R195). -/
theorem actionOf_none {kind index action : Byte} {sub : Subject} (found : subjectOf kind index = some sub)
    (outside : (kind = 0#8 ∧ ¬(1 ≤ action.toNat ∧ action.toNat ≤ 3)) ∨
      (kind = 1#8 ∧ ¬(4 ≤ action.toNat ∧ action.toNat ≤ 5)) ∨
      (kind = 2#8 ∧ action.toNat ≠ 6) ∨ (kind = 3#8 ∧ action.toNat ≠ 7)) : actionOf sub action = none := by
  have ne {k : Nat} (other : action.toNat ≠ k % 256) : action ≠ BitVec.ofNat 8 k := by
    rintro rfl
    exact other (BitVec.toNat_ofNat ..)
  rcases outside with ⟨rfl, out⟩ | ⟨rfl, out⟩ | ⟨rfl, out⟩ | ⟨rfl, out⟩
  · obtain ⟨n, -, rfl⟩ := Option.map_eq_some_iff.mp (show (lineOf index).map Subject.line = some sub from found)
    rw [actionOf, if_neg (ne (by omega)), if_neg (ne (by omega)), if_neg (ne (by omega))]
  · obtain ⟨m, -, rfl⟩ := Option.map_eq_some_iff.mp (show (masterOf index).map Subject.master = some sub from found)
    rw [actionOf, if_neg (ne (by omega)), if_neg (ne (by omega))]
  · obtain rfl := Option.some.inj (show some Subject.config = some sub from found)
    rw [actionOf, if_neg (ne (by omega))]
  · obtain rfl := Option.some.inj (show some Subject.part = some sub from found)
    rw [actionOf, if_neg (ne (by omega))]

theorem decodePropose_range {kind index action : Byte} (arg : W16)
    (outside : 4 ≤ kind.toNat ∨ (kind = 0#8 ∧ 16 ≤ index.toNat) ∨ (kind = 1#8 ∧ 4 ≤ index.toNat) ∨
      (kind = 0#8 ∧ ¬(1 ≤ action.toNat ∧ action.toNat ≤ 3)) ∨
      (kind = 1#8 ∧ ¬(4 ≤ action.toNat ∧ action.toNat ≤ 5)) ∨
      (kind = 2#8 ∧ action.toNat ≠ 6) ∨ (kind = 3#8 ∧ action.toNat ≠ 7)) :
    decodePropose kind index action arg = .error .range := by
  unfold decodePropose
  cases found : subjectOf kind index with
  | none => rfl
  | some sub =>
    rcases outside with out | out | out | out
    · nomatch (subjectOf_none (.inl out)).symm.trans found
    · nomatch (subjectOf_none (.inr (.inl out))).symm.trans found
    · nomatch (subjectOf_none (.inr (.inr out))).symm.trans found
    · simp only [actionOf_none found out]

/-- Settles O44: decoding refuses each of them. -/
theorem valuesOutsideTheirSetsAreRefusedAtDecode : Obligations.ValuesOutsideTheirSetsAreRefusedAtDecode := by
  intro p src tag s c code params request served outside
  obtain ⟨command, length⟩ := exec_request request s
  refine ⟨_, command, requestEvent_refused_at_decode s p src tag code params .range served length ?_ nofun⟩
  rcases outside with ⟨line, rfl, above⟩ | ⟨line, select, b, rfl, above⟩ | ⟨target, rfl | rfl, above⟩ |
    ⟨kind, index, action, arg, rfl, out⟩ <;> cases request
  · exact onLine_range _ _ above
  · exact onLine_range _ _ above
  · exact onTarget_range _ _ above
  · exact onTarget_range _ _ above
  · exact decodePropose_range _ out

/-! ### Reading back (R136, R140, R193) -/

theorem decodeFields_params {q : Request} (spelled : q.wellFormed = true) :
    q.params.length = q.code.paramLength ∧ decodeFields q.code q.params = .ok q := by
  cases q with
  | readStatus => exact ⟨rfl, rfl⟩
  | readLines => exact ⟨rfl, rfl⟩
  | readLine n => exact ⟨rfl, onLine_lineByte n _⟩
  | readProposals start => exact ⟨rfl, rfl⟩
  | readConfig t => exact ⟨rfl, onTarget_byte t _⟩
  | readShadow t => exact ⟨rfl, onTarget_byte t _⟩
  | heartbeat => exact ⟨rfl, rfl⟩
  | subscribe mask =>
    refine ⟨rfl, ?_⟩
    have narrow : (mask.setWidth 8).setWidth 6 = mask := by
      refine BitVec.eq_of_toNat_eq ?_
      rw [BitVec.toNat_setWidth, BitVec.toNat_setWidth_of_le (by decide), Nat.mod_eq_of_lt mask.isLt]
    rw [Request.code, Request.params, decodeFields_subscribe, narrow]
  | resync => exact ⟨rfl, rfl⟩
  | assertLine n => exact ⟨rfl, onLine_lineByte n _⟩
  | releaseLine n => exact ⟨rfl, onLine_lineByte n _⟩
  | claimLine n d => exact ⟨rfl, decodeFields_duration (decodeFields_claimLine _)⟩
  | renewLease n d => exact ⟨rfl, decodeFields_duration (decodeFields_renewLease _)⟩
  | relinquishLine n => exact ⟨rfl, onLine_lineByte n _⟩
  | pulseLine n d => exact ⟨rfl, decodeFields_duration (decodeFields_pulseLine _)⟩
  | propose sub act arg => exact ⟨rfl, decodeFields_proposalParams _ sub act arg spelled (indexSpells_indexByte sub)⟩
  | withdraw id => exact ⟨rfl, rfl⟩
  | openConfig => exact ⟨rfl, rfl⟩
  | writeLineConfig n select b => exact ⟨rfl, decodeFields_lineConfigParams n select b⟩
  | writeGlobalConfig select b => exact ⟨rfl, decodeFields_globalConfigParams select b⟩
  | commitConfig => exact ⟨rfl, rfl⟩
  | closeConfig => exact ⟨rfl, rfl⟩

/-- The high and the low byte of a word. -/
theorem wordBytes_eq (w : W16) : wordBytes w = [BitVec.ofNat 8 (w.toNat / 256), BitVec.ofNat 8 w.toNat] := by
  have high : w.extractLsb' 8 8 = BitVec.ofNat 8 (w.toNat / 256) := by
    refine BitVec.eq_of_toNat_eq ?_
    rw [BitVec.extractLsb'_toNat, BitVec.toNat_ofNat, Nat.shiftRight_eq_div_pow]
  have low : w.extractLsb' 0 8 = BitVec.ofNat 8 w.toNat := by
    refine BitVec.eq_of_toNat_eq ?_
    rw [BitVec.extractLsb'_toNat, BitVec.toNat_ofNat, Nat.shiftRight_zero]
  rw [wordBytes, high, low]

theorem fieldCodes : FieldCodes where
  word := wordBytes_eq
  lineNumber _ := rfl
  masterNumber _ := rfl
  owner := ⟨rfl, fun _ => rfl⟩
  sets set i := by
    rw [setByte, BitVec.getLsbD_setWidth]
    by_cases inside : i < 4
    · simp [inside, show i < 8 by omega]
    · simp [inside, BitVec.getLsbD_of_ge set i (Nat.not_lt.mp inside)]
  level := ⟨rfl, rfl⟩
  commanded := ⟨rfl, rfl⟩
  policy := rfl
  feedback := rfl
  hold := ⟨rfl, rfl⟩
  restart := ⟨rfl, rfl⟩
  session := ⟨rfl, fun _ _ _ _ => rfl, fun _ _ _ => rfl⟩
  entry := ⟨rfl, rfl⟩
  subject := ⟨fun _ => ⟨rfl, rfl⟩, fun _ => ⟨rfl, rfl⟩, rfl, rfl, rfl, rfl⟩
  action := rfl
  outcome := rfl
  yesNo := ⟨rfl, rfl⟩
  target := ⟨fun _ => rfl, rfl⟩

theorem bitCodes : BitCodes where
  flag := rfl
  flagWord f := by
    rw [flagBytes, wordBytes_eq, BitVec.toNat_setWidth_of_le (by decide)]
  noticeClass := rfl

/-- The code tables of chapter 10, table by table. -/
theorem codeTables : CodeTables where
  request c := by cases c <;> decide
  unknown b absent := by
    refine List.find?_eq_none.mpr fun c _ same => ?_
    have listed : (c, c.byte, c.paramLength) ∈ table101 := by cases c <;> decide
    exact absent _ listed (of_decide_eq_true same)
  status st := by cases st <;> decide
  fields := fieldCodes
  bits := bitCodes
  blocks := ⟨fun _ => rfl, fun _ => rfl⟩
  reports := ⟨rfl, rfl, rfl⟩

/-- Settles O47: a request packet is taken apart into its fields, and they decode to the request. -/
theorem requestPacketsAreReadBack : Obligations.RequestPacketsAreReadBack := by
  refine ⟨fun dest src tag q spelled => ?_, codeTables⟩
  obtain ⟨length, decoded⟩ := decodeFields_params spelled
  exact ⟨⟨_, parsePacket_requestPacket ..⟩, checkByteGood_requestPacket ..,
    (decodeRequest_of_length _ _ length).trans decoded⟩

end Sys2Proof.Machine
end

section
/-! PROOFS. Packets on a port (chapter 7): requests that wait, duplicates, received characters, and complete packets
that are no request (R130 to R142, R147, R177, R182). -/

namespace Sys2Proof.Machine

open Sys2Proof

theorem State.setPort_setPort (s : State) (p : PortId) (a b : Port) : (s.setPort p a).setPort p b = s.setPort p b := by
  simp [State.setPort]

theorem State.setPort_self (s : State) (p : PortId) : s.setPort p (s.port p) = s := by
  have same : s.ports.set p.val (s.port p) p.isLt = s.ports := vector_ext_get fun k => by
    rw [get_set]
    split
    next at_p => rw [at_p]; rfl
    · rfl
  rw [State.setPort, same]

/-! ### The drain (R182) -/

/-- A bound on the buffer of port p is kept by packets. -/
theorem buffer_packetLaw (p : PortId) (n : Nat) (k : PortId) : PacketLaw fun x => k = p → x.rx.length ≤ n where
  off _ _ _ := Nat.zero_le n
  started _ _ _ := Nat.zero_le n
  stored _ _ h := h
  responded _ _ _ h := h
  assembled _ _ _ h := h
  taken x c rest buffer h same := (Nat.le_succ _).trans (by simpa [buffer] using h same)

/-- The character taken leaves no more in the buffer than was behind it. -/
theorem takeChar_rx_le {s : State} {p : PortId} (c : RxChar) (open_ : (s.port p).assembly.state ≠ .waiting) :
    ((takeChar p c s).port p).rx.length ≤ (s.port p).rx.length :=
  takeChar_onPorts (buffer_packetLaw p (s.port p).rx.length) p c open_ (fun _ same => same ▸ le_rfl) p rfl

/-- Enough steps drain the buffer (R182). -/
theorem drain_drained {s : State} {p : PortId} {k : Nat} (enough : (s.port p).rx.length ≤ k) :
    Drained p s (drain p k s) := by
  induction k generalizing s with
  | zero => exact .empty s (List.length_eq_zero_iff.mp (Nat.le_zero.mp enough))
  | succ k ih =>
    unfold drain
    split
    next waiting => exact .held s waiting
    next open_ =>
      split
      next empty => exact .empty s empty
      next c rest buffer =>
        have open_' : ((s.updPort p fun r => { r with rx := rest }).port p).assembly.state ≠ .waiting := by
          rwa [State.updPort_port_same]
        refine .take s _ _ c rest open_ buffer (takeChar_taken _ p c open_') (ih ?_)
        refine (takeChar_rx_le c open_').trans ?_
        rw [State.updPort_port_same]
        simpa [buffer] using enough

theorem drainAll_drained (p : PortId) (s : State) : Drained p s (drainAll p s) := drain_drained le_rfl

/-- An empty buffer has nothing to drain. -/
theorem drainAll_empty {p : PortId} {s : State} (empty : (s.port p).rx = []) : drainAll p s = s := by
  rw [drainAll, empty]
  rfl

/-! ### A request as a packet (R132, R135, R139, R147) -/

section

variable {p : PortId} {src tag : Byte} {code : RequestCode} {params : List Byte} {s : State}

theorem slotFree_of_lt {r : Port} (room : r.responses.length < 2) : r.slotFree = true := decide_eq_true room

theorem slotFree_of_le {r : Port} (full : 2 ≤ r.responses.length) : r.slotFree = false :=
  decide_eq_false (Nat.not_lt.mpr full)

/-- The event of a request row is a complete packet of its port. -/
theorem requestEvent_complete (running : s.rstn = .high) (linked : (s.port p).link ≠ .off)
    (idle : (s.port p).assembly = ⟨.idle, []⟩) :
    requestEvent p src tag code params s = completePacket p (requestBytes s src tag code params) s :=
  if_pos ⟨running, linked, by rw [idle]⟩

/-- A request packet that finds a free slot is accepted (R132, R135). -/
theorem completePacket_request (room : (s.port p).responses.length < 2) :
    completePacket p (requestBytes s src tag code params) s =
      assembling (acceptRequest p (rawRequest s src tag code params) s) p ⟨.idle, []⟩ := by
  rw [completePacket, if_pos (slotFree_of_lt room)]
  exact congrArg (State.setAssembly · p ⟨.idle, []⟩) (processPacket_requestPacket p s src tag code.byte params)

/-- A complete packet without a free slot waits (R132). -/
theorem completePacket_waits (full : 2 ≤ (s.port p).responses.length) (bytes : List Byte) :
    completePacket p bytes s = assembling s p ⟨.waiting, bytes⟩ := by
  rw [completePacket, slotFree_of_le full]
  rfl

end

/-- Settles O48: the duplicate is answered from the stored-response record (R139). -/
theorem duplicatesAreReplayed : Obligations.DuplicatesAreReplayed := by
  intro p src tag c code params s request ⟨running, linked, idle, room⟩ valid same_tag same_check
  obtain ⟨command, -⟩ := exec_request request s
  have duplicate : ((renew p src s).port p).isDuplicate (rawRequest s src tag code params) = true := by
    rw [renew_port, Port.isDuplicate, valid, same_tag, same_check]
    simp [rawRequest]
  have replayed : acceptRequest p (rawRequest s src tag code params) s =
      (renew p src s).setPort p
        { s.port p with responses := (s.port p).responses ++ [(s.port p).stored.response] } := by
    refine (if_pos duplicate).trans ?_
    show (renew p src s).setPort p _ = _
    rw [renew_port]
    rfl
  refine ⟨renew p src s, _, command, renew_renewed s p src, ?_⟩
  rw [requestEvent_complete running linked idle, completePacket_request room, replayed]
  refine setAssembly_idle _ p ?_
  rw [State.setPort_port_same]
  exact idle

theorem exec_processWaiting {s : State} (running : s.rstn = .high) (p : PortId) :
    exec (.processWaitingPacket p) s = .next (processWaiting p s) :=
  congrArg Host.Outcome.next (whenRunning_running running)

/-- The packet that waits is processed once a slot is free, and the drain goes on (R147, R182). -/
theorem processWaiting_due {p : PortId} {s : State} {bytes : List Byte}
    (waiting : (s.port p).assembly = ⟨.waiting, bytes⟩) (room : (s.port p).responses.length < 2) :
    processWaiting p s = drainAll p (assembling (processPacket p bytes s) p ⟨.idle, []⟩) := by
  rw [processWaiting, waiting, slotFree_of_lt room, completePacket, if_pos (slotFree_of_lt room)]
  rfl

theorem processWaiting_idle {p : PortId} {s : State}
    (undue : (s.port p).assembly.state ≠ .waiting ∨ 2 ≤ (s.port p).responses.length) : processWaiting p s = s := by
  refine if_neg fun due => ?_
  rw [Bool.and_eq_true, decide_eq_true_iff] at due
  rcases undue with idle | full
  · exact idle due.1
  · exact Nat.not_lt.mpr full (of_decide_eq_true due.2)

/-- Settles O49: a request row is a complete packet, which is processed at once or waits. -/
theorem aRequestWaitsForAResponseSlot : Obligations.ARequestWaitsForAResponseSlot := by
  intro p src tag c code params s request running
  obtain ⟨command, -⟩ := exec_request request s
  refine ⟨fun linked idle full => ?waits, fun linked idle room => ?taken, fun waiting empty room => ?processed,
    fun bytes waiting room => ?drained, fun undue => ?undue⟩
  case waits => rw [command, requestEvent_complete running linked idle, completePacket_waits full]
  case taken => rw [command, requestEvent_complete running linked idle, completePacket_request room]
  case processed =>
    have accepted : processPacket p (requestBytes s src tag code params) s =
        acceptRequest p (rawRequest s src tag code params) s := processPacket_requestPacket p s src tag code.byte params
    have left : ((acceptRequest p (rawRequest s src tag code params) s).port p).rx.length ≤ 0 :=
      acceptRequest_onPorts (buffer_packetLaw p 0) p _ (fun _ same => by rw [same, empty]; exact le_rfl) room p rfl
    rw [exec_processWaiting running, processWaiting_due waiting room, accepted, drainAll_empty]
    rw [assembling, State.setPort_port_same]
    exact List.length_eq_zero_iff.mp (Nat.le_zero.mp left)
  case drained =>
    rw [exec_processWaiting running, processWaiting_due waiting room]
    exact ⟨_, rfl, drainAll_drained p _⟩
  case undue => rw [exec_processWaiting running, processWaiting_idle undue]

/-! ### Received characters (R131, R177) -/

section

variable {p : PortId} {s : State} (running : s.rstn = .high) (up : (s.port p).link = .up)
  (granted : 0 < (s.port p).outstanding)

/-- The commands that bring a character of a packet. -/
theorem exec_receive {c : Instr} {b : Byte} {ch : RxChar} (running : s.rstn = .high)
    (received : (c = .receiveData p b ∧ ch = .data b) ∨ (c = .receiveEnd p ∧ ch = .endChar) ∨
      (c = .receiveFail p ∧ ch = .failChar)) : exec c s = .next (receiveChar p ch s) := by
  rcases received with ⟨rfl, rfl⟩ | ⟨rfl, rfl⟩ | ⟨rfl, rfl⟩ <;>
    exact congrArg Host.Outcome.next (whenRunning_running running)

include up granted

/-- In UP with a grant outstanding a character is placed last in the buffer, and the buffer is drained (R177,
R182). -/
theorem receiveChar_up (ch : RxChar) : receiveChar p ch s =
    drainAll p ((heardOne s p).setPort p { (heardOne s p).port p with rx := (s.port p).rx ++ [ch] }) := by
  rw [receiveChar, up]
  refine (if_neg (Nat.pos_iff_ne_zero.mp granted)).trans ?_
  rw [heardOne, State.setPort_port_same, State.setPort_setPort]
  rfl

/-- A character that finds the buffer empty is taken at once. -/
theorem receiveChar_taken (ch : RxChar) (empty : (s.port p).rx = [])
    (open_ : (s.port p).assembly.state ≠ .waiting) : receiveChar p ch s = takeChar p ch (heardOne s p) := by
  have emptied : (((heardOne s p).setPort p { (heardOne s p).port p with rx := [ch] }).updPort p
      fun r => { r with rx := [] }) = heardOne s p := by
    rw [State.updPort, State.setPort_port_same, State.setPort_setPort]
    have same : ({ (heardOne s p).port p with rx := [] } : Port) = (heardOne s p).port p := by
      rw [heardOne, State.setPort_port_same, ← empty]
    rw [same, State.setPort_self]
  have undrained : (((heardOne s p).setPort p { (heardOne s p).port p with rx := [ch] }).port p).assembly.state ≠
      .waiting := by
    rwa [State.setPort_port_same, heardOne, State.setPort_port_same]
  rw [receiveChar_up up granted, empty, List.nil_append, drainAll, State.setPort_port_same]
  show drain p 1 _ = _
  rw [drain, if_neg undrained, State.setPort_port_same]
  exact congrArg (takeChar p ch) emptied

/-- A character behind a waiting packet stays in the buffer (R182). -/
theorem receiveChar_kept (ch : RxChar) (waiting : (s.port p).assembly.state = .waiting) : receiveChar p ch s =
    (heardOne s p).setPort p { (heardOne s p).port p with rx := (s.port p).rx ++ [ch] } := by
  have held : (((heardOne s p).setPort p { (heardOne s p).port p with rx := (s.port p).rx ++ [ch] }).port
      p).assembly.state = .waiting := by
    rwa [State.setPort_port_same, heardOne, State.setPort_port_same]
  rw [receiveChar_up up granted, drainAll, State.setPort_port_same, List.length_append]
  exact if_pos held

end

theorem heardOne_port (s : State) (p : PortId) : (heardOne s p).port p =
    { s.port p with disconnect := some 1500, outstanding := (s.port p).outstanding - 1 } :=
  State.setPort_port_same ..

/-- Settles O50: the character is placed and drained; alone in the buffer, it is taken as the table of R131 gives. -/
theorem receivedCharactersAreAssembled : Obligations.ReceivedCharactersAreAssembled := by
  intro p b s h running up granted heard
  obtain rfl := heard
  have data := exec_receive (p := p) (b := b) running (.inl ⟨rfl, rfl⟩)
  have fin := exec_receive (p := p) (b := b) running (.inr (.inl ⟨rfl, rfl⟩))
  have fail := exec_receive (p := p) (b := b) running (.inr (.inr ⟨rfl, rfl⟩))
  have assembly : ((heardOne s p).port p).assembly = (s.port p).assembly := by rw [heardOne_port]
  refine ⟨fun c ch received => ?any, fun empty idle => ?idle, fun empty gathering => ?gathering,
    fun empty overlong => ?overlong, fun waiting => ?waiting⟩
  case any =>
    refine ⟨_, exec_receive running received, ?_⟩
    rw [receiveChar_up up granted]
    exact drainAll_drained p _
  case waiting =>
    rw [data, fin, fail, receiveChar_kept up granted _ waiting, receiveChar_kept up granted _ waiting,
      receiveChar_kept up granted _ waiting]
    exact ⟨rfl, rfl, rfl⟩
  case idle =>
    have take (ch : RxChar) := receiveChar_taken up granted ch empty (by rw [idle]; nofun)
    rw [data, fin, fail, take, take, take]
    simp only [takeChar, takeData, takeEnd, takeFail, assembly, idle]
    exact ⟨rfl, trivial, rfl⟩
  case overlong =>
    have take (ch : RxChar) := receiveChar_taken up granted ch empty (by rw [overlong]; nofun)
    rw [data, fin, fail, take, take, take]
    simp only [takeChar, takeData, takeEnd, takeFail, assembly, overlong]
    exact ⟨trivial, rfl, rfl⟩
  case gathering =>
    have take (ch : RxChar) := receiveChar_taken up granted ch empty (by rw [gathering]; nofun)
    rw [data, fin, fail, take, take, take]
    simp only [takeChar, takeData, takeEnd, takeFail, assembly, gathering]
    refine ⟨?data, fun short => ?short, fun src tag code params bytes => ?request, rfl⟩
    case data =>
      by_cases room : (s.port p).assembly.bytes.length < 24
      · rw [if_pos room, if_pos (show (s.port p).assembly.bytes.length < Config.maxPacket from room)]; rfl
      · rw [if_neg room, if_neg (show ¬(s.port p).assembly.bytes.length < Config.maxPacket from room)]; rfl
    case short =>
      rw [if_pos (show (s.port p).assembly.bytes.length < Config.minPacket from short)]
      rfl
    case request =>
      have long : ¬(s.port p).assembly.bytes.length < Config.minPacket := by
        rw [bytes, requestBytes]
        simp [Config.minPacket]
      have same : requestBytes s src tag code params = requestBytes (heardOne s p) src tag code params := rfl
      have slots : ((heardOne s p).port p).responses = (s.port p).responses := by rw [heardOne_port]
      rw [if_neg long, bytes, same]
      by_cases room : (s.port p).responses.length < 2
      · rw [if_pos room, completePacket_request (by rwa [slots])]
        rfl
      · rw [if_neg room, completePacket_waits (by rw [slots]; exact Nat.not_lt.mp room)]

/-! ### Complete packets that are no request (R136, R137, R140) -/

/-- The fields of a packet of five bytes or more (section 10.1). -/
theorem parsePacket_bytes (dest src tag code check : Byte) (params : List Byte) :
    parsePacket ([dest, src, tag, code] ++ params ++ [check]) = some (dest, ⟨src, tag, code, params, check⟩) := by
  cases params with
  | nil => rfl
  | cons b rest =>
    have front : (b :: (rest ++ [check])).dropLast = b :: rest := List.dropLast_concat (l₁ := b :: rest)
    simp [parsePacket, front]

theorem checkByteGood_iff (body : List Byte) (check : Byte) :
    checkByteGood (body ++ [check]) = true ↔ check = crc8 body := by
  rw [checkByteGood, List.getLast?_concat, List.dropLast_concat, decide_eq_true_iff, Option.some.injEq]

/-- A code that is no request code, or parameters of another length, are refused at decode (R140). -/
theorem decodeRequest_refused {code rc : Byte} {params : List Byte} {st : Status}
    (bad : ((∀ x : RequestCode, x.byte ≠ code) ∧ st = .code ∧ rc = 0xFF#8) ∨
      (∃ x : RequestCode, x.byte = code ∧ params.length ≠ x.paramLength ∧ st = .format ∧ rc = code + 0x80#8)) :
    decodeRequest code params = .error st ∧ responseCode code st = rc := by
  rcases bad with ⟨unknown, rfl, rfl⟩ | ⟨x, rfl, length, rfl, rfl⟩
  · have none : requestCodeOf code = none :=
      List.find?_eq_none.mpr fun x _ same => unknown x (of_decide_eq_true same)
    exact ⟨by rw [decodeRequest, none], rfl⟩
  · exact ⟨by rw [decodeRequest, requestCodeOf_byte]; exact if_pos length, rfl⟩

/-- Settles O51: a packet is checked as R135 orders, and one that is no request is answered as R140 says. -/
theorem badPacketsAreDiscardedOrRefused : Obligations.BadPacketsAreDiscardedOrRefused := by
  intro p dest src tag code check params s h running up granted empty gathering room heard
  obtain rfl := heard
  have port := heardOne_port s p
  have room' : ((heardOne s p).port p).responses.length < 2 := by rwa [port]
  have received : exec (.receiveEnd p) s = .next
      (assembling (processPacket p ([dest, src, tag, code] ++ params ++ [check]) (heardOne s p)) p ⟨.idle, []⟩) := by
    have long : ¬([dest, src, tag, code] ++ params ++ [check]).length < Config.minPacket := by simp [Config.minPacket]
    rw [exec_receive (b := 0#8) running (.inr (.inl ⟨rfl, rfl⟩)),
      receiveChar_taken up granted _ empty (by rw [gathering]; nofun), takeChar, takeEnd]
    simp only [port, gathering]
    rw [if_neg long, completePacket, if_pos (slotFree_of_lt room')]
    rfl
  have parsed := parsePacket_bytes dest src tag code check params
  have good := checkByteGood_iff ([dest, src, tag, code] ++ params) check
  rw [received, processPacket, parsed]
  refine ⟨fun wrong => ?check, fun right other => ?address, fun st rc right own fresh bad => ?answered⟩
  case check =>
    have refused : checkByteGood ([dest, src, tag, code] ++ params ++ [check]) = false :=
      Bool.eq_false_iff.mpr fun ok => wrong (good.mp ok)
    simp only [refused, Bool.not_false, if_true]
    rfl
  case address =>
    simp only [good.mpr right, Bool.not_true, Bool.false_eq_true, if_false]
    rw [if_pos (show dest ≠ (heardOne s p).linkAddress from other)]
    rfl
  case answered =>
    obtain ⟨decoded, response_code⟩ := decodeRequest_refused bad
    have fresh' : ((renew p src (heardOne s p)).port p).isDuplicate ⟨src, tag, code, params, check⟩ = false := by
      rw [renew_port, port, Port.isDuplicate]
      refine Bool.eq_false_iff.mpr fun duplicate => ?_
      simp only [Bool.and_eq_true, decide_eq_true_iff] at duplicate
      exact fresh duplicate.1.1 duplicate.1.2
    have accepted : acceptRequest p ⟨src, tag, code, params, check⟩ (heardOne s p) =
        respond p ⟨src, tag, code, params, check⟩ ⟨st, []⟩ (renew p src (heardOne s p)) := by
      simp only [acceptRequest, fresh', execute, decoded, refuse, Bool.false_eq_true, if_false]
    have sent : responsePacket (renew p src (heardOne s p)).linkAddress ⟨src, tag, code, params, check⟩ ⟨st, []⟩ =
        [src, s.linkAddress, tag, rc, st.byte] ++ [crc8 [src, s.linkAddress, tag, rc, st.byte]] := by
      rw [responsePacket, renew_linkAddress]
      simp only [response_code, List.append_nil]
      rfl
    simp only [good.mpr right, Bool.not_true, Bool.false_eq_true, if_false]
    rw [if_neg (show ¬dest ≠ (heardOne s p).linkAddress from not_not.mpr own), accepted, respond, sent]
    refine ⟨renew p src (heardOne s p), _, _, rfl, renew_renewed _ p src, rfl, ?_⟩
    rw [assembling, State.updPort, State.setPort_setPort, State.setPort_port_same, renew_port, port, Port.takeResponse]
    simp only [up]
    rfl

end Sys2Proof.Machine
end

section
/-! PROOFS. The links (chapter 9): start-up, errors, and what the transmitter sends. -/

namespace Sys2Proof.Machine

open Sys2Proof

section

variable {p : PortId} {s : State}

/-! ### Start-up (R173 to R178) -/

/-- The event of a command in a running part. -/
theorem exec_running {c : Instr} {f : State → State} (running : s.rstn = .high)
    (event : exec c s = .next (whenRunning f s)) : exec c s = .next (f s) :=
  event.trans (congrArg Host.Outcome.next (whenRunning_running running))

/-- IDLE restarts the disconnect deadline of a linked port (R178). -/
theorem receiveIdleChar_linked (linked : (s.port p).link = .handshake ∨ (s.port p).link = .up) :
    receiveIdleChar p s = s.updPort p Port.heard := by
  rcases linked with link | link <;> rw [receiveIdleChar, link]

/-- The first GRANT brings the link UP (R176). -/
theorem receiveGrantChar_handshake (handshake : (s.port p).link = .handshake) :
    receiveGrantChar p s =
      s.updPort p fun r => { r.heard with link := .up, credit := Config.grantSize, handshake := none } := by
  rw [receiveGrantChar, handshake]

/-- A GRANT raises the credit within its limit, and is an error beyond it (R177, R179). -/
theorem receiveGrantChar_up (up : (s.port p).link = .up) :
    receiveGrantChar p s =
      if (s.port p).credit + 8 ≤ 64 then s.updPort p fun r => { r.heard with credit := r.credit + Config.grantSize }
      else linkError p s := by
  rw [receiveGrantChar, up]
  rfl

/-- Settles O52: each character and deadline by the link state that it finds. -/
theorem theLinkStartsUp : Obligations.TheLinkStartsUp := by
  intro p s r running port
  obtain rfl := port
  have holdoff : exec (.holdoffDeadline p) s = .next (holdoffReached p s) := exec_running running rfl
  have idle : exec (.receiveIdle p) s = .next (receiveIdleChar p s) := exec_running running rfl
  have grant : exec (.receiveGrant p) s = .next (receiveGrantChar p s) := exec_running running rfl
  have parity : exec (.parityError p) s = .next (linkError p s) := exec_running running rfl
  have data (b : Byte) : exec (.receiveData p b) s = .next (receiveChar p (.data b) s) := exec_running running rfl
  have fin : exec (.receiveEnd p) s = .next (receiveChar p .endChar s) := exec_running running rfl
  have fail : exec (.receiveFail p) s = .next (receiveChar p .failChar s) := exec_running running rfl
  rw [holdoff, idle, grant, parity, fin, fail]
  refine ⟨fun quiet => ?_, fun other => ?_, fun listen => ?_, fun handshake => ?_, fun up => ⟨fun room => ?_, ?_⟩,
    fun deaf => ?_, fun deaf => ?_⟩
  · rw [holdoffReached, quiet]; rfl
  · unfold holdoffReached
    split
    next quiet => exact absurd quiet other
    · rfl
  · rw [receiveIdleChar, receiveGrantChar, listen]; exact ⟨rfl, rfl⟩
  · rw [receiveIdleChar_linked (.inl handshake), receiveGrantChar_handshake handshake]; exact ⟨rfl, rfl⟩
  · rw [receiveGrantChar_up up, if_pos (by omega)]; rfl
  · rw [receiveIdleChar_linked (.inr up)]; rfl
  · rcases deaf with off | quiet
    · rw [receiveIdleChar, receiveGrantChar, linkError, off]; exact ⟨rfl, rfl, rfl⟩
    · rw [receiveIdleChar, receiveGrantChar, linkError, quiet]; exact ⟨rfl, rfl, rfl⟩
  · have ignored (ch : RxChar) : receiveChar p ch s = s := by
      rcases deaf with off | quiet | listen
      · rw [receiveChar, off]
      · rw [receiveChar, quiet]
      · rw [receiveChar, listen]
    exact ⟨fun b => by rw [data, ignored], by rw [ignored], by rw [ignored]⟩

/-! ### Errors (R179 to R181, R134, R148) -/

/-- Leaving UP by an error: the flag and the losses first (R181). -/
theorem loseTransmission_afterLosses (p : PortId) (s : State) :
    loseTransmission p (setFlag p .linkError s) = afterLosses p s := by
  unfold loseTransmission noticeLostInTransmission afterLosses
  rw [setFlag_port]
  by_cases notice : (s.port p).sendsNotice = true
  · rw [if_pos notice]; simp only [notice, if_true]; rfl
  · rw [if_neg notice]; simp only [notice]; rfl

theorem afterLosses_port (p : PortId) (s : State) :
    (afterLosses p s).port p = { s.port p with tx := none, responses := [] } := State.setPort_port_same ..

theorem linkError_handshake (handshake : (s.port p).link = .handshake) : linkError p s = enterQuiet p s := by
  rw [linkError, handshake]

theorem linkError_up (up : (s.port p).link = .up) :
    linkError p s = quietFromUp p (processWaiting p (afterLosses p s)) := by
  rw [linkError, up, ← loseTransmission_afterLosses]

theorem quietFromUp_up (up : (s.port p).link = .up) : quietFromUp p s = enterQuiet p s := by
  rw [quietFromUp, up]

theorem quietFromUp_other (left : (s.port p).link ≠ .up) : quietFromUp p s = s := by
  unfold quietFromUp
  split
  next up => exact absurd up left
  · rfl

/-- The commands that are an error in HANDSHAKE (R175, R179). -/
theorem exec_error_handshake {c : Instr} (running : s.rstn = .high) (handshake : (s.port p).link = .handshake)
    (error : c = .parityError p ∨ c = .disconnectDeadline p ∨ c = .handshakeTimeout p ∨
      (∃ b, c = .receiveData p b) ∨ c = .receiveEnd p ∨ c = .receiveFail p) : exec c s = .next (linkError p s) := by
  have received (ch : RxChar) : receiveChar p ch s = linkError p s := by rw [receiveChar, handshake]
  rcases error with rfl | rfl | rfl | ⟨b, rfl⟩ | rfl | rfl
  · exact exec_running running rfl
  · exact (exec_running running rfl).trans
      (congrArg _ (show disconnectReached p s = _ by rw [disconnectReached, handshake]))
  · exact (exec_running running rfl).trans
      (congrArg _ (show handshakeReached p s = _ by rw [handshakeReached, handshake]))
  · exact (exec_running running rfl).trans (congrArg _ (received _))
  · exact (exec_running running rfl).trans (congrArg _ (received _))
  · exact (exec_running running rfl).trans (congrArg _ (received _))

/-- The commands that are an error in UP (R177 to R179). -/
theorem exec_error_up {c : Instr} (running : s.rstn = .high) (up : (s.port p).link = .up)
    (error : c = .parityError p ∨ c = .disconnectDeadline p ∨ (c = .receiveGrant p ∧ 56 < (s.port p).credit) ∨
      ((s.port p).outstanding = 0 ∧ ((∃ b, c = .receiveData p b) ∨ c = .receiveEnd p ∨ c = .receiveFail p))) :
    exec c s = .next (linkError p s) := by
  rcases error with rfl | rfl | ⟨rfl, beyond⟩ | ⟨ungranted, received⟩
  · exact exec_running running rfl
  · exact (exec_running running rfl).trans (congrArg _ (show disconnectReached p s = _ by rw [disconnectReached, up]))
  · refine (exec_running running rfl).trans (congrArg _ (show receiveGrantChar p s = _ from ?_))
    rw [receiveGrantChar_up up, if_neg (by omega)]
  · have refused (ch : RxChar) : receiveChar p ch s = linkError p s := by
      rw [receiveChar, up]
      exact if_pos ungranted
    rcases received with ⟨b, rfl⟩ | rfl | rfl
    · exact (exec_running running rfl).trans (congrArg _ (refused _))
    · exact (exec_running running rfl).trans (congrArg _ (refused _))
    · exact (exec_running running rfl).trans (congrArg _ (refused _))

end

/-- Settles O53: an error by the link state that it finds. -/
theorem errorsTakeThePortToQuiet : Obligations.ErrorsTakeThePortToQuiet := by
  intro p c s r running port
  obtain rfl := port
  refine ⟨fun listen => ?listen, fun handshake error => ?handshake, fun up error => ?up⟩
  case listen =>
    refine (exec_running running rfl).trans (congrArg _ (show linkError p s = _ from ?_))
    rw [linkError, listen]
    rfl
  case handshake =>
    refine ⟨_, exec_error_handshake running handshake error, ?_⟩
    rw [linkError_handshake handshake]
    exact enterQuiet_entered s p
  case up =>
    have port := afterLosses_port p s
    refine ⟨_, exec_error_up running up error, fun idle => ?idle, fun bytes waiting => ?waiting⟩
    case idle =>
      rw [linkError_up up, processWaiting_idle (.inl (by rw [port]; exact idle)),
        quietFromUp_up (by rw [port]; exact up)]
      exact enterQuiet_entered _ p
    case waiting =>
      rw [linkError_up up, processWaiting_due (by rw [port]; exact waiting) (by rw [port]; exact Nat.zero_lt_two)]
      refine ⟨_, drainAll_drained p _, fun still => ?_, quietFromUp_other⟩
      rw [quietFromUp_up still]
      exact enterQuiet_entered _ p

/-! ### The transmitter (R183 to R187) -/

section

variable {p : PortId} {s : State}

theorem grantOwed_iff {r : Port} (linked : r.link = .handshake ∨ r.link = .up) : r.grantOwed = true ↔ owed r := by
  have joined : (r.link = .handshake || r.link = .up : Bool) = true := by
    rcases linked with link | link <;> rw [link] <;> rfl
  rw [Port.grantOwed, joined, Bool.true_and, decide_eq_true_iff]
  rfl

theorem grantOwed_of_not {r : Port} (linked : r.link = .handshake ∨ r.link = .up) (unowed : ¬owed r) :
    r.grantOwed = false :=
  Bool.eq_false_iff.mpr fun owes => unowed ((grantOwed_iff linked).mp owes)

theorem exec_transmit (running : s.rstn = .high) : exec (.transmitCharacter p) s = transmit p s := by
  show execTransmitCharacter p s = _
  rw [execTransmitCharacter, running]

/-- IDLE is sent where nothing else may be (R174, R175, R184, R185). -/
theorem transmit_idle (idle : (s.port p).link = .listen ∨
    ((s.port p).link = .handshake ∧ ¬(owed (s.port p) ∧ (s.port p).idleSent = true)) ∨
    ((s.port p).link = .up ∧ ¬owed (s.port p) ∧ (s.port p).credit = 0)) :
    transmit p s = .next (s.updPort p Port.sendIdle) := by
  rcases idle with listen | ⟨handshake, unready⟩ | ⟨up, unowed, empty⟩
  · rw [transmit, listen]
  · have none : ((s.port p).grantOwed && (s.port p).idleSent) = false := by
      rw [Bool.and_eq_false_iff]
      by_cases owes : owed (s.port p)
      · exact .inr (Bool.eq_false_iff.mpr fun ready => unready ⟨owes, ready⟩)
      · exact .inl (grantOwed_of_not (.inl handshake) owes)
    simp only [transmit, handshake, none, Bool.false_eq_true, if_false]
  · simp only [transmit, up, grantOwed_of_not (.inr up) unowed, empty, Bool.false_eq_true, if_false, if_true]

/-- An owed GRANT is sent before all else (R175, R183, R185). -/
theorem transmit_grant (grant : ((s.port p).link = .handshake ∧ owed (s.port p) ∧ (s.port p).idleSent = true) ∨
    ((s.port p).link = .up ∧ owed (s.port p))) : transmit p s = .next (s.updPort p Port.sendGrant) := by
  rcases grant with ⟨handshake, owes, ready⟩ | ⟨up, owes⟩
  · simp only [transmit, handshake, (grantOwed_iff (.inl handshake)).mpr owes, ready, Bool.and_self, if_true]
  · simp only [transmit, up, (grantOwed_iff (.inr up)).mpr owes, if_true]

section

variable (up : (s.port p).link = .up) (unowed : ¬owed (s.port p)) (credit : 0 < (s.port p).credit)

include up unowed credit

/-- In UP with credit and no GRANT owed the transmitter goes on with its packet (R185 step 3). -/
theorem transmit_next {t : Transmission} (sending : (s.port p).tx = some t) :
    transmit p s = .next (s.updPort p fun x => x.sendNext t) := by
  simp only [transmit, up, grantOwed_of_not (.inr up) unowed, Bool.false_eq_true, if_false,
    Nat.pos_iff_ne_zero.mp credit, sending]

/-- Without a packet in transmission it begins one (R185 step 4). -/
theorem transmit_begin (unsent : (s.port p).tx = none) : transmit p s = beginPacket p s := by
  simp only [transmit, up, grantOwed_of_not (.inr up) unowed, Bool.false_eq_true, if_false,
    Nat.pos_iff_ne_zero.mp credit, unsent]

end

/-- A byte that is left is sent (R187). -/
theorem sendNext_byte {x : Port} {t : Transmission} {b : Byte} (left : (x.txBytes t)[t.sent]? = some b) :
    x.sendNext t = x.sendData b t := by
  rw [Port.sendNext, left]

/-- When no byte is left the END is sent (R187). -/
theorem sendNext_end {x : Port} {t : Transmission} (sent : (x.txBytes t).length ≤ t.sent) :
    x.sendNext t = x.sendEnd t := by
  rw [Port.sendNext, List.getElem?_eq_none sent]

theorem beginPacket_response {front : List Byte} {rest : List (List Byte)}
    (waiting : (s.port p).responses = front :: rest) :
    beginPacket p s = .next (s.updPort p fun r => r.sendNext (.response 0)) := by
  rw [beginPacket, waiting]

theorem beginPacket_idle (no_response : (s.port p).responses = []) (no_notice : (s.stat p).queue = []) :
    beginPacket p s = .next (s.updPort p Port.sendIdle) := by
  rw [beginPacket, no_response, no_notice]

theorem beginPacket_notice {nt : Notice} {rest : List Notice} {dest : Byte} (no_response : (s.port p).responses = [])
    (waiting : (s.stat p).queue = nt :: rest) (address : (s.master p).lastSource = some dest) :
    beginPacket p s = .next ((s.setStat p ((s.stat p).beginNotice rest)).updPort p fun r =>
      r.sendNext (.notice (notificationPacket dest s.linkAddress (s.stat p).seq nt) 0)) := by
  rw [beginPacket, no_response, waiting, address]

/-- A notification packet as section 10.4 spells it. -/
theorem notificationPacket_eq (dest addr seq : Byte) (nt : Notice) : notificationPacket dest addr seq nt =
    [dest, addr, seq, 0xE0#8] ++ noticeBytes nt ++ [crc8 ([dest, addr, seq, 0xE0#8] ++ noticeBytes nt)] := by
  rw [noticeBytes_eq]
  rfl

end

/-- Settles O54: the transmitter by the link state, the grant owed, the credit and the packet it finds. -/
theorem theTransmitterChooses : Obligations.TheTransmitterChooses := by
  intro p s r running port
  obtain rfl := port
  rw [exec_transmit running]
  refine ⟨fun silent => ?silent, fun idle => ?idle, fun grant => ?grant,
    fun up unowed credit => ⟨fun k front rest b waiting left sending => ?response, fun bytes k b sending left => ?next,
      fun nt rest dest unsent no_response waiting address => ?notice⟩⟩
  case silent =>
    rcases silent with off | quiet
    · rw [transmit, off]
    · rw [transmit, quiet]
  case idle =>
    rcases idle with listen | unready | ⟨up, unowed, nothing⟩
    · exact transmit_idle (.inl listen)
    · exact transmit_idle (.inr (.inl unready))
    · by_cases empty : (s.port p).credit = 0
      · exact transmit_idle (.inr (.inr ⟨up, unowed, empty⟩))
      · obtain ⟨unsent, no_response, no_notice⟩ := nothing.resolve_left empty
        rw [transmit_begin up unowed (Nat.pos_of_ne_zero empty) unsent]
        exact beginPacket_idle no_response no_notice
  case grant => exact transmit_grant grant
  case response =>
    have bytes : ((s.port p).txBytes (.response k))[(Transmission.response k).sent]? = some b := by
      rw [Port.txBytes, waiting]
      exact left
    have next : transmit p s = .next (s.setPort p ((s.port p).sendNext (.response k))) := by
      rcases sending with sending | ⟨unsent, rfl⟩
      · exact transmit_next up unowed credit sending
      · exact (transmit_begin up unowed credit unsent).trans (beginPacket_response waiting)
    rw [next, sendNext_byte bytes]
    rfl
  case next =>
    have next : transmit p s = .next (s.setPort p ((s.port p).sendNext (.notice bytes k))) :=
      transmit_next up unowed credit sending
    rw [next, sendNext_byte (show ((s.port p).txBytes (.notice bytes k))[k]? = some b from left)]
    rfl
  case notice =>
    refine ⟨_, rfl, (transmit_begin up unowed credit unsent).trans ?_⟩
    refine (beginPacket_notice no_response waiting address).trans ?_
    rw [notificationPacket_eq]
    rfl

/-- Settles O55: the END is due exactly when the transmitter would send it next. -/
theorem theEndOfAPacketFreesItsSlot : Obligations.TheEndOfAPacketFreesItsSlot := by
  intro p s r running port
  obtain rfl := port
  have event : exec (.packetEndSent p) s = .next (endSent p s) := exec_running running rfl
  rw [event, exec_transmit running]
  refine ⟨fun up unowed credit => ?due, fun undue => ?undue⟩
  case due =>
    have due (t : Transmission) (sending : (s.port p).tx = some t) (sent : ((s.port p).txBytes t).length ≤ t.sent) :
        endSent p s = s.updPort p (fun x => x.sendEnd t) ∧
          transmit p s = .next (s.updPort p fun x => x.sendEnd t) := by
      have ready : (s.port p).endDue = some t := by
        simp [Port.endDue, up, grantOwed_of_not (.inr up) unowed, Nat.pos_iff_ne_zero.mp credit, sending, sent]
      refine ⟨by rw [endSent, ready], ?_⟩
      refine (transmit_next up unowed credit sending).trans ?_
      show Host.Outcome.next (s.setPort p ((s.port p).sendNext t)) = _
      rw [sendNext_end sent]
      rfl
    refine ⟨fun k front rest waiting sending sent => ?_, fun bytes k sending sent => ?_⟩
    · obtain ⟨ended, transmitted⟩ := due (.response k) sending (by rw [Port.txBytes, waiting]; exact sent)
      rw [ended, transmitted, State.updPort, Port.sendEnd, waiting]
      exact ⟨rfl, rfl⟩
    · obtain ⟨ended, transmitted⟩ := due (.notice bytes k) sending sent
      rw [ended, transmitted]
      exact ⟨rfl, rfl⟩
  case undue =>
    have none : (s.port p).endDue = none := by
      unfold Port.endDue
      split
      next open_ =>
        simp only [Bool.and_eq_true, decide_eq_true_iff, Bool.not_eq_true'] at open_
        obtain ⟨⟨up, unowed⟩, credit⟩ := open_
        rcases undue with down | owes | empty | unsent | ⟨k, front, rest, waiting, sending, left⟩ |
          ⟨bytes, k, sending, left⟩
        · exact absurd up down
        · exact nomatch unowed.symm.trans ((grantOwed_iff (.inr up)).mpr owes)
        · exact absurd empty (by simpa using credit)
        · rw [unsent]
        · rw [sending]
          refine if_neg (Nat.not_le.mpr ?_)
          rw [Port.txBytes, waiting]
          exact left
        · rw [sending]
          exact if_neg (Nat.not_le.mpr left)
      · rfl
    rw [endSent, none]

end Sys2Proof.Machine
end

section
/-! PROOFS. The two pin resets, the raw HOLD input, and the invariants of the state after reset (R1, R11, R12,
R18). -/

namespace Sys2Proof.Machine

open Sys2Proof

/-! ### The records of a reset -/

section

variable (cfgsel : Level) (adrs : Byte) (holdPin : Level) (fbkPins : W16)

theorem afterPinReset_line (n : LineId) :
    (State.afterPinReset cfgsel adrs holdPin fbkPins).line n = resetLine (defaultLineConfig cfgsel) :=
  get_replicate _ n

theorem afterPinReset_configLine (n : LineId) :
    (State.afterPinReset cfgsel adrs holdPin fbkPins).config.line n = defaultLineConfig cfgsel :=
  get_replicate _ n

theorem afterPinReset_input (n : LineId) :
    (State.afterPinReset cfgsel adrs holdPin fbkPins).input n = if fbkPins.getLsbD n.val then .high else .low :=
  get_ofFn (n := 16) _ n

theorem afterPinReset_master (m : MasterId) :
    (State.afterPinReset cfgsel adrs holdPin fbkPins).master m = resetMaster :=
  get_replicate _ m

theorem afterPinReset_stat (m : MasterId) :
    (State.afterPinReset cfgsel adrs holdPin fbkPins).stat m = resetStatus :=
  get_replicate _ m

theorem afterPinReset_port (p : PortId) :
    (State.afterPinReset cfgsel adrs holdPin fbkPins).port p = resetPort adrs :=
  get_replicate _ p

/-- A RELEASED line carries its safe level, and so does its pin at the release of RSTN. -/
theorem afterPinReset_pinLevel (n : LineId) :
    (State.afterPinReset cfgsel adrs holdPin fbkPins).pinLevel n = .low := by
  show drivenLevel (sampledHold holdPin) ((State.afterPinReset cfgsel adrs holdPin fbkPins).line n) = .low
  rw [afterPinReset_line, drivenLevel_released _ _ rfl]
  rfl

end

/-- HOLD is taken as asserted when its input is HIGH (R12). -/
theorem sampledHold_eq (pin : Level) : sampledHold pin = if pin = .high then .asserted else .released := by
  cases pin <;> rfl

theorem validAddress_iff (a : Byte) : validAddress a = true ↔ ¬(a = 0#8 ∨ a = 255#8) := by
  simp [validAddress]

/-- The port of a part without a valid link address is silent (R172, R190). -/
theorem resetPort_eq (adrs : Byte) : resetPort adrs =
    if adrs = 0#8 ∨ adrs = 255#8 then silentPort
    else { silentPort with link := .quiet, holdoff := some 20000 } := by
  by_cases invalid : adrs = 0#8 ∨ adrs = 255#8
  · rw [if_pos invalid, resetPort, if_neg fun valid => (validAddress_iff adrs).mp valid invalid]
  · rw [if_neg invalid, resetPort, if_pos ((validAddress_iff adrs).mpr invalid)]
    rfl

/-! ### The two edges of RSTN -/

/-- Settles O4: every record is the one the reset writes. -/
theorem rstnReleasedGivesThePinResetState : Obligations.RstnReleasedGivesThePinResetState := by
  intro cfgsel adrs holdPin fbkPins s
  refine ⟨_, exec_rstnReleased cfgsel adrs holdPin fbkPins s, rfl, rfl, rfl, ?hold,
    afterPinReset_input cfgsel adrs holdPin fbkPins, fun n => ?config, rfl, fun n => ⟨?line, ?pin⟩, rfl, rfl, rfl, rfl,
    fun m => ⟨afterPinReset_master cfgsel adrs holdPin fbkPins m, afterPinReset_stat cfgsel adrs holdPin fbkPins m⟩,
    rfl, fun p => ?port, rfl⟩
  case hold => rw [← sampledHold_eq]; rfl
  case config =>
    refine (afterPinReset_configLine cfgsel adrs holdPin fbkPins n).trans ?_
    cases cfgsel <;> rfl
  case line =>
    refine (afterPinReset_line cfgsel adrs holdPin fbkPins n).trans ?_
    exact congrArg resetLine (afterPinReset_configLine cfgsel adrs holdPin fbkPins n).symm
  case pin => exact afterPinReset_pinLevel cfgsel adrs holdPin fbkPins n
  case port =>
    have port : State.port { State.afterPinReset cfgsel adrs holdPin fbkPins with pending := s.pending } p = _ :=
      (afterPinReset_port cfgsel adrs holdPin fbkPins p).trans (resetPort_eq adrs)
    rw [port]
    by_cases invalid : adrs = 0#8 ∨ adrs = 255#8 <;> simp [invalid, silentPort]

/-- A part in reset takes no event (R18). -/
theorem whenRunning_reset {f : State → State} {s : State} (reset : s.rstn = .low) : whenRunning f s = s := by
  rw [whenRunning, reset]

/-- A part in reset hears no request (R190). -/
theorem requestEvent_reset {s : State} (reset : s.rstn = .low) (p : PortId) (src tag : Byte) (code : RequestCode)
    (params : List Byte) : requestEvent p src tag code params s = s :=
  if_neg fun running => absurd (reset.symm.trans running.1) (by decide : Level.low ≠ .high)

/-- A part in reset transmits nothing (R190). -/
theorem execTransmitCharacter_reset {s : State} (reset : s.rstn = .low) (p : PortId) :
    execTransmitCharacter p s = .next s := by
  rw [execTransmitCharacter, reset]

/-- Settles O5: what the assertion writes, and that every other command asks for a running part. -/
theorem rstnAssertedHoldsThePartInReset : Obligations.RstnAssertedHoldsThePartInReset := by
  refine fun s => ⟨⟨assertReset s, rfl, rfl, fun _ => rfl, fun n => get_eachRecord _ _ n, rfl, rfl, rfl, rfl,
    fun m => ⟨get_replicate _ m, get_replicate _ m⟩, fun p => ?port, rfl, rfl, rfl, rfl, rfl, rfl, rfl⟩, ?deaf⟩
  case port =>
    have port : (assertReset s).port p = silentPort := get_replicate _ p
    rw [port]
    exact ⟨rfl, rfl, rfl, rfl, rfl, rfl, rfl⟩
  case deaf =>
    intro c reset notAsserted notCounted notReleased notHold notFeedback
    cases c with
    | rstnAsserted => exact absurd rfl notAsserted
    | millisecondCountAdvance => exact absurd rfl notCounted
    | rstnReleased a b h f => exact absurd rfl (notReleased a b h f)
    | holdInputChange l => exact absurd rfl (notHold l)
    | feedbackInputChange n l => exact absurd rfl (notFeedback n l)
    | transmitCharacter p => exact execTransmitCharacter_reset reset p
    | holdAsserted | holdReleased | pulseDeadline | leaseDeadline | settleDeadline | presenceDeadline | entryDeadline
    | idleDeadline | holdoffDeadline | handshakeTimeout | disconnectDeadline | receiveData | receiveEnd | receiveFail
    | receiveGrant | receiveIdle | parityError | packetEndSent | processWaitingPacket =>
      exact congrArg Host.Outcome.next (whenRunning_reset reset)
    | _ => exact congrArg Host.Outcome.next (requestEvent_reset reset _ _ _ _ _)

/-! ### The raw HOLD input (R11) -/

/-- The raw level stands at the qualified level. -/
theorem sampledHold_eq_iff (pin : Level) (qualified : HoldLevel) :
    sampledHold pin = qualified ↔ (pin = .high ↔ qualified = .asserted) := by
  cases pin <;> cases qualified <;> decide

/-- Settles O17: the measurement is over exactly when the raw level stands at the qualified one. -/
theorem holdInputChangeRestartsTheMeasurement : Obligations.HoldInputChangeRestartsTheMeasurement := by
  intro level s running moved
  have taken : exec (.holdInputChange level) s = .next (holdInputEvent level s) := by
    refine (if_neg moved).trans ?_
    rw [running]
  refine taken.trans (congrArg Host.Outcome.next ?_)
  rw [holdInputEvent]
  simp only [sampledHold_eq_iff]
  rfl

/-! ### The state after reset -/

/-- Settles O60: its ports are silent or hold off, its masters ABSENT, its lines and its table empty. -/
theorem resetMeetsTheInvariants : Obligations.ResetMeetsTheInvariants := by
  have port (p : PortId) : State.reset.port p = resetPort 0x40#8 := afterPinReset_port _ _ _ _ p
  have master (m : MasterId) : State.reset.master m = resetMaster := afterPinReset_master _ _ _ _ m
  have stat (m : MasterId) : State.reset.stat m = resetStatus := afterPinReset_stat _ _ _ _ m
  refine ⟨fun p => ?_, fun p => ?_, .empty fun m => ?_, fun m => .of_absent ?_ ?_ ?_ ?_, .afterPinReset _ _ _ _,
    .afterPinReset _ _ _ _⟩
  · rw [port]; exact portFlow_linkLaw.resetPort _
  · rw [port]; exact portDeadlines_linkLaw.resetPort _
  · rw [stat]; rfl
  · rw [master]; rfl
  · rw [master]; rfl
  · rw [stat]; rfl
  · rw [stat]; rfl

end Sys2Proof.Machine
end

section
/-! PROOFS. The apply of a configuration (R119 to R123, R188, R189): its lines with their notices, its entries, its
ports, and the two commands that carry it. -/

namespace Sys2Proof.Machine

open Sys2Proof

/-! ### What a line clear tells (R9) -/

/-- The notice of a lease that ends with its line. -/
def leaseNotices (n : LineId) (reason : LeaseReason) (owner : Option MasterId) : List Notice :=
  match owner with
  | none => []
  | some m => [.leaseEnded n m reason]

/-- LEASE_LOST for the former owner of a line (R66 step 5). -/
abbrev ownerMark (owner : Option MasterId) : MasterId → FlagSet :=
  fun k => if owner = some k then onlyBit (flagBit .leaseLost) else 0#11

theorem leaseEndReport_told (n : LineId) (m : MasterId) {reason : LeaseReason} (lost : reason ≠ .relinquished)
    (s : State) : Told [.leaseEnded n m reason] (ownerMark (some m)) s (leaseEndReport n m reason s) := by
  unfold leaseEndReport
  dsimp only
  rw [if_neg lost]
  exact ((raise_told _ s).unmarked_trans (setFlag_told m .leaseLost _)).congr rfl fun k => by
    simp only [ownerMark, Option.some.injEq, eq_comm]

theorem reportChange_told (n : LineId) (before : Level) (cause : Cause) (s : State) :
    Told (if before = s.driven n then [] else [.lineChanged n (s.driven n) (s.line n).commanded cause]) unmarked s
      (reportChange n before cause s) := by
  unfold reportChange
  by_cases same : s.driven n = before
  · rw [if_pos same, if_pos same.symm]; exact .refl s
  · rw [if_neg same, if_neg fun before => same before.symm]; exact (raise_told _ s).trans_same rfl rfl

/-- A cleared line tells the end of its lease, and its safe level when it carried the other (R9). -/
theorem lineClear_told (n : LineId) {reason : LeaseReason} (lost : reason ≠ .relinquished) (cause : Cause)
    (before : Level) (s : State) :
    Told (leaseNotices n reason (s.line n).owner ++
      if before = (s.line n).cfg.safe then [] else [.lineChanged n (s.line n).cfg.safe .released cause])
      (ownerMark (s.line n).owner) s (lineClear n reason cause before s) := by
  have cleared : Told [] unmarked s (s.updLine n (Line.clear s.count)) := .of_same rfl rfl
  have reported (x : State) (line : x.line n = appliedLine s.count (s.line n).cfg) :
      Told (if before = (s.line n).cfg.safe then [] else [.lineChanged n (s.line n).cfg.safe .released cause]) unmarked
        x (reportChange n before cause x) := by
    have report := reportChange_told n before cause x
    rwa [State.driven_eq, drivenLevel_released _ _ (by rw [line]; rfl), line] at report
  have line : (s.updLine n (Line.clear s.count)).line n = appliedLine s.count (s.line n).cfg := by
    rw [State.updLine_line_same, Line.clear_eq]
  unfold lineClear
  cases (s.line n).owner with
  | none => exact (cleared.trans_unmarked (reported _ line)).congr rfl fun _ => rfl
  | some m =>
    have ended := leaseEndReport_told n m lost (s.updLine n (Line.clear s.count))
    exact (cleared.unmarked_trans ended).trans_unmarked (reported _ (by rw [leaseEndReport_line, line]))

/-- One mark for either of two reasons. -/
theorem ite_or_ite (a b : Prop) [Decidable a] [Decidable b] (set : FlagSet) :
    ((if a then set else 0#11) ||| if b then set else 0#11) = if a ∨ b then set else 0#11 := by
  by_cases first : a <;> by_cases second : b <;> simp [first, second]

/-! ### The changed lines (R120) -/

/-- The notices of a line whose configuration part an apply changes (R9, R47, R120). -/
def changedLineNotices (new : Configuration) (s : State) (n : LineId) : List Notice :=
  leaseNotices n .config (s.line n).owner ++
  (if s.driven n = (new.line n).safe then [] else [.lineChanged n (new.line n).safe .released .config]) ++
  (s.table.filter fun e => e.subject = .line n).map fun e => .proposalEnded e.id e.subject e.action .cancelled e.voters

section

variable {old new : Configuration} {s : State}
  (subjects : s.table.Pairwise fun a b => a.subject ≠ b.subject) (ids : s.table.Pairwise fun a b => a.id ≠ b.id)

include subjects ids

/-- A changed line is cleared under its new part, and its entry is cancelled (R120). -/
theorem applyLine_changed {n : LineId} (changed : old.line n ≠ new.line n) :
    (applyLine old new s n).table = s.table.filter (fun e => e.subject ≠ .line n) ∧
      Told (changedLineNotices new s n) (ownerMark (s.line n).owner) s (applyLine old new s n) := by
  have told := (lineClear_told n (reason := .config) nofun .config (s.driven n)
    (s.updLine n fun l => { l with cfg := new.line n })).same_trans (s := s) rfl rfl
  rw [State.updLine_line_same] at told
  rw [applyLine, if_neg changed]
  have table : (lineClear n .config .config (s.driven n) (s.updLine n fun l => { l with cfg := new.line n })).table =
      s.table := by rw [lineClear_frame]; rfl
  generalize lineClear n .config .config (s.driven n) (s.updLine n fun l => { l with cfg := new.line n }) = x
    at told table ⊢
  obtain ⟨frame, cancelled⟩ := cancelOn_cancelled (s := x) (table ▸ subjects) (table ▸ ids) (.line n)
  rw [table] at frame cancelled
  exact ⟨by rw [frame], told.trans_unmarked cancelled⟩

/-- The lines of an apply, one after another: each is cleared as it stood before. -/
theorem foldl_applyLine_changed {ns : List LineId} (distinct : ns.Nodup) :
    (ns.foldl (applyLine old new) s).table =
        s.table.filter (fun e => ¬∃ n ∈ ns, e.subject = .line n ∧ old.line n ≠ new.line n) ∧
      Told (((ns.filter fun n => old.line n ≠ new.line n).map (changedLineNotices new s)).flatten)
        (fun k => if ∃ n ∈ ns, old.line n ≠ new.line n ∧ (s.line n).owner = some k then onlyBit (flagBit .leaseLost)
          else 0#11) s (ns.foldl (applyLine old new) s) := by
  induction ns generalizing s with
  | nil => exact ⟨by simp, (Told.refl s).congr rfl fun k => by simp⟩
  | cons n ns ih =>
    obtain ⟨fresh, distinct⟩ := List.nodup_cons.mp distinct
    by_cases same : old.line n = new.line n
    · obtain ⟨table, told⟩ := ih subjects ids distinct
      rw [List.foldl_cons, applyLine, if_pos same]
      refine ⟨?_, told.congr ?_ fun k => ?_⟩
      · simpa [same] using table
      · simp [same]
      · simp [same]
    · obtain ⟨dropped, first⟩ := applyLine_changed subjects ids same
      have line := applyLine_line old new s n
      have hold := (applyLine_claimed s old new n).hold
      rw [List.foldl_cons]
      generalize applyLine old new s n = x at dropped first line hold ⊢
      obtain ⟨table, told⟩ := ih (dropped ▸ subjects.filter _) (dropped ▸ ids.filter _) distinct
      have untouched {k : LineId} (later : k ∈ ns) : x.line k = s.line k := by
        rw [line, if_neg]
        rintro ⟨rfl, _⟩
        exact fresh later
      have notices {k : LineId} (later : k ∈ ns) : changedLineNotices new x k = changedLineNotices new s k := by
        have other : k ≠ n := by rintro rfl; exact fresh later
        have entries : x.table.filter (fun e => e.subject = .line k) =
            s.table.filter (fun e => e.subject = .line k) := by
          rw [dropped, List.filter_filter]
          refine List.filter_congr fun e _ => ?_
          by_cases on : e.subject = .line k <;> simp [on, other]
        rw [changedLineNotices, State.driven_eq, hold, untouched later, entries]
        rfl
      refine ⟨?_, (first.trans told).congr ?_ fun k => ?_⟩
      · rw [table, dropped, List.filter_filter]
        refine List.filter_congr fun e _ => ?_
        simp [same, Bool.and_comm]
      · rw [List.filter_cons_of_pos (by simp [same]), List.map_cons, List.flatten_cons]
        congr 2
        exact List.map_congr_left fun k later => notices (List.mem_of_mem_filter later)
      · have later : (∃ m ∈ ns, old.line m ≠ new.line m ∧ (x.line m).owner = some k) ↔
            ∃ m ∈ ns, old.line m ≠ new.line m ∧ (s.line m).owner = some k :=
          exists_congr fun m => and_congr_right fun found => by rw [untouched found]
        simp only [later, List.exists_mem_cons_iff, ne_eq, same, not_false_eq_true, true_and]
        exact ite_or_ite _ _ _

end

/-! ### The ports (R122, R188, R189) -/

/-- Port p leaves the port enable set. -/
abbrev leavesSet (old new : PortSet) (p : PortId) : Prop := old.getLsbD p.val = true ∧ new.getLsbD p.val = false

/-- Port p enters the port enable set. -/
abbrev entersSet (old new : PortSet) (p : PortId) : Prop := old.getLsbD p.val = false ∧ new.getLsbD p.val = true

/-- A port's record after an apply (R188, R189): with an invalid link address it stays as it was (R172). -/
def switchedPort (old new : PortSet) (address : Byte) (p : PortId) (r : Port) : Port :=
  if leavesSet old new p then r.goOff
  else if entersSet old new p ∧ validAddress address = true then r.startLink
  else r

section

variable {old new : PortSet} {p : PortId}

theorem switchedPort_same (same : old.getLsbD p.val = new.getLsbD p.val) (address : Byte) (r : Port) :
    switchedPort old new address p r = r := by
  unfold switchedPort leavesSet entersSet
  rw [same]
  cases new.getLsbD p.val <;> rfl

theorem switchedPort_left (leaves : leavesSet old new p) (address : Byte) (r : Port) :
    switchedPort old new address p r = r.goOff := if_pos leaves

theorem switchedPort_entered (enters : entersSet old new p) (address : Byte) (r : Port) :
    switchedPort old new address p r = if address = 0#8 ∨ address = 255#8 then r else r.startLink := by
  have stays : ¬leavesSet old new p := fun leaves => Bool.noConfusion (enters.1.symm.trans leaves.1)
  rw [switchedPort, if_neg stays]
  simp only [and_iff_right enters, validAddress_iff, ite_not]

end

/-- NOTICE_LOST for a port that goes OFF amid a notice (R165, R188). -/
abbrev cutOff (old new : PortSet) (p : PortId) (r : Port) : Prop := leavesSet old new p ∧ r.sendsNotice = true

theorem noticeLostInTransmission_told (p : PortId) (s : State) :
    Told [] (fun m => if m = p ∧ (s.port p).sendsNotice = true then onlyBit (flagBit .noticeLost) else 0#11) s
      (noticeLostInTransmission p s) := by
  unfold noticeLostInTransmission
  by_cases sends : (s.port p).sendsNotice = true
  · simpa only [sends, if_true, and_true] using setFlag_told p .noticeLost s
  · rw [if_neg sends]
    exact (Told.refl s).congr rfl fun m => by simp [sends]

/-- The switch of one port, in its own record and in the flags of its master. -/
theorem switchPort_switched (old new : PortSet) (s : State) (p : PortId) :
    (∀ k, (switchPort old new s p).port k =
      if k = p then switchedPort old new s.linkAddress p (s.port p) else s.port k) ∧
    Told [] (fun m => if m = p ∧ cutOff old new p (s.port p) then onlyBit (flagBit .noticeLost) else 0#11) s
      (switchPort old new s p) := by
  have same (k : PortId) : s.port k = if k = p then s.port p else s.port k := by
    split
    next same => rw [same]
    · rfl
  unfold switchPort switchedPort hasBit
  by_cases leaves : leavesSet old new p
  · obtain ⟨was, left⟩ := leaves
    simp only [was, left, cutOff, leavesSet, Bool.not_false, Bool.and_self, and_self, if_true, true_and]
    refine ⟨fun k => ?_, (noticeLostInTransmission_told p s).trans_same rfl rfl⟩
    rw [disablePort, State.updPort_port, noticeLostInTransmission_frame]
    rfl
  · have stays : (old.getLsbD p.val && !new.getLsbD p.val) = false := by
      simpa [leavesSet] using leaves
    simp only [stays, leaves, cutOff, Bool.false_eq_true, if_false, false_and, and_false]
    by_cases enters : entersSet old new p
    · obtain ⟨was, entered⟩ := enters
      simp only [was, entered, entersSet, Bool.not_false, Bool.and_self, and_self, if_true, true_and]
      unfold enablePort
      by_cases valid : validAddress s.linkAddress = true
      · rw [if_pos valid]
        exact ⟨fun k => by rw [State.updPort_port, if_pos valid], .of_same rfl rfl⟩
      · rw [if_neg valid]
        exact ⟨fun k => by rw [if_neg valid]; exact same k, .refl s⟩
    · have stays : (!old.getLsbD p.val && new.getLsbD p.val) = false := by
        simpa [entersSet] using enters
      simp only [stays, enters, Bool.false_eq_true, if_false, false_and]
      exact ⟨same, .refl s⟩

theorem foldl_switchPort_switched {ps : List PortId} (distinct : ps.Nodup) (old new : PortSet) (s : State) :
    (∀ k, (ps.foldl (switchPort old new) s).port k =
      if k ∈ ps then switchedPort old new s.linkAddress k (s.port k) else s.port k) ∧
    Told [] (fun m => if m ∈ ps ∧ cutOff old new m (s.port m) then onlyBit (flagBit .noticeLost) else 0#11) s
      (ps.foldl (switchPort old new) s) := by
  induction ps generalizing s with
  | nil => exact ⟨fun k => by simp, (Told.refl s).congr rfl fun m => by simp⟩
  | cons p ps ih =>
    obtain ⟨fresh, distinct⟩ := List.nodup_cons.mp distinct
    obtain ⟨port, first⟩ := switchPort_switched old new s p
    have address : (switchPort old new s p).linkAddress = s.linkAddress := by rw [switchPort_frame]
    rw [List.foldl_cons]
    generalize switchPort old new s p = x at port first address ⊢
    obtain ⟨ports, told⟩ := ih distinct x
    have other {k : PortId} (later : k ∈ ps) : k ≠ p := by rintro rfl; exact fresh later
    refine ⟨fun k => ?_, (first.trans told).congr rfl fun m => ?_⟩
    · rw [ports, address, port]
      by_cases here : k = p
      · subst here; simp [fresh]
      · simp [here]
    · rw [port]
      by_cases here : m = p
      · subst here; simp [fresh]
      · simp [here]

theorem switchPorts_switched (old new : PortSet) (s : State) :
    (∀ k, (switchPorts old new s).port k = switchedPort old new s.linkAddress k (s.port k)) ∧
    Told [] (fun m => if cutOff old new m (s.port m) then onlyBit (flagBit .noticeLost) else 0#11) s
      (switchPorts old new s) := by
  have all (k : PortId) : k ∈ allMasters := by revert k; decide
  unfold switchPorts
  simpa only [all, if_true, true_and] using foldl_switchPort_switched (ps := allMasters) (by decide) old new s

/-! ### The set of changed lines (R123) -/

/-- Adding an element above all others adds its power of two. -/
theorem toNat_addBit_of_lt {set : BitVec 16} {n : LineId} (below : set.toNat < 2 ^ n.val) :
    (addBit set n.val).toNat = set.toNat + 2 ^ n.val := by
  have fits : 2 ^ n.val < 2 ^ 16 := Nat.pow_lt_pow_right (by decide) n.isLt
  rw [addBit, BitVec.toNat_or, BitVec.toNat_twoPow, Nat.mod_eq_of_lt fits, Nat.or_comm, Nat.add_comm]
  simpa using (Nat.two_pow_add_eq_or_of_lt below 1).symm

/-- Lines collected in ascending order make the sum of their powers of two. -/
theorem foldl_addBit_eq_sum (same : LineId → Prop) [DecidablePred same] {ns : List LineId}
    (ascending : ns.Pairwise (· < ·)) {set : BitVec 16} (below : ∀ n ∈ ns, set.toNat < 2 ^ n.val) :
    ns.foldl (fun set n => if same n then set else addBit set n.val) set =
      BitVec.ofNat 16 (set.toNat + (ns.map fun n => if same n then 0 else 2 ^ n.val).sum) := by
  induction ns generalizing set with
  | nil => simp
  | cons n ns ih =>
    obtain ⟨first, ascending⟩ := List.pairwise_cons.mp ascending
    have here := below n List.mem_cons_self
    rw [List.foldl_cons, List.map_cons, List.sum_cons]
    by_cases kept : same n
    · rw [if_pos kept, if_pos kept, Nat.zero_add]
      exact ih ascending fun k later => below k (List.mem_cons_of_mem n later)
    · rw [if_neg kept, if_neg kept, ih ascending, toNat_addBit_of_lt here, Nat.add_assoc]
      intro k later
      have next : 2 ^ (n.val + 1) ≤ 2 ^ k.val := Nat.pow_le_pow_right (by decide) (first k later)
      rw [toNat_addBit_of_lt here]
      omega

theorem changedLines_eq (old new : Configuration) : changedLines old new = changedSet old new := by
  have collected := foldl_addBit_eq_sum (fun n => old.line n = new.line n) (ns := allLines) (by decide)
    (set := 0#16) fun n _ => Nat.two_pow_pos n.val
  unfold changedLines changedSet
  simpa using collected

/-! ### The apply as a whole (R119) -/

section

variable {s : State} (subjects : s.table.Pairwise fun a b => a.subject ≠ b.subject)
  (ids : s.table.Pairwise fun a b => a.id ≠ b.id) (sh : Configuration) (rev : W16)

/-- The part with a new configuration and its generation (R119). -/
def configured (sh : Configuration) (s : State) : State := { s with generation := s.generation + 1#16, config := sh }

include subjects ids

/-- All lines of an apply, as they stood before it (R120). -/
theorem applyLines_changed :
    (allLines.foldl (applyLine s.config sh) (configured sh s)).table =
        s.table.filter (fun e => ¬∃ n, e.subject = .line n ∧ s.config.line n ≠ sh.line n) ∧
      Told (((allLines.filter fun n => s.config.line n ≠ sh.line n).map (changedLineNotices sh s)).flatten)
        (fun k => if ∃ n, s.config.line n ≠ sh.line n ∧ (s.line n).owner = some k then onlyBit (flagBit .leaseLost)
          else 0#11) s (allLines.foldl (applyLine s.config sh) (configured sh s)) := by
  obtain ⟨table, told⟩ := foldl_applyLine_changed (old := s.config) (new := sh) (s := configured sh s) subjects ids
    (ns := allLines) (by decide)
  simp only [mem_allLines, true_and] at table told
  exact ⟨table, told.same_trans rfl rfl⟩

/-- An apply changes what R119 to R123, R188 and R189 say, and tells it in their order. -/
theorem applyConfig_applied : Applied sh rev s (applyConfig sh rev s) := by
  have line := applyConfig_line sh rev s
  have frame := applyConfig_frame sh rev s
  obtain ⟨table, lined⟩ := applyLines_changed subjects ids sh
  have kept := foldl_applyLine_frame s.config sh allLines (configured sh s)
  rw [applyConfig_eq, ← configured] at line frame ⊢
  dsimp only at line frame ⊢
  generalize allLines.foldl (applyLine s.config sh) (configured sh s) = x at line frame table lined kept ⊢
  obtain ⟨port, switched⟩ := switchPorts_switched s.config.globals.ports sh.globals.ports x
  have carried := switchPorts_frame s.config.globals.ports sh.globals.ports x
  have ports (p : PortId) : x.port p = s.port p := by rw [kept]; rfl
  have address : x.linkAddress = s.linkAddress := by rw [kept]; rfl
  have generation : x.generation = s.generation + 1#16 := by rw [kept]; rfl
  simp only [ports, address] at port switched
  generalize switchPorts s.config.globals.ports sh.globals.ports x = y at line frame port switched carried ⊢
  have entries : y.table = x.table := by rw [carried]
  rw [show y.generation = s.generation + 1#16 by rw [carried, generation], changedLines_eq] at line frame ⊢
  have raised := (lined.trans switched).trans_unmarked (raise_told (.configApplied (s.generation + 1#16) rev
    (changedSet s.config sh) (s.config.globals ≠ sh.globals) sh.globals.ports) y)
  rw [List.append_nil] at raised
  refine ⟨frame, fun n same => ?_, fun n changed => ?_, entries.trans table,
    fun p same => (port p).trans (switchedPort_same same _ _),
    fun p was left => (port p).trans (switchedPort_left ⟨was, left⟩ _ _),
    fun p was entered => (port p).trans (switchedPort_entered ⟨was, entered⟩ _ _), fun m => ?_⟩
  · rw [line, if_pos same]
  · rw [line, if_neg changed]
  · refine (raised.stat m).trans ?_
    rw [← StatusRecord.mark_mark, StatusRecord.mark_ite, StatusRecord.mark_ite]
    simp only [cutOff, leavesSet, and_assoc]
    rfl

end

/-! ### The commands that carry it (R41, R116) -/

/-- The assembly record of an applied port stays empty (R134, R188). -/
theorem Applied.idle {sh : Configuration} {rev : W16} {s t : State} (applied : Applied sh rev s t) {p : PortId}
    (idle : (s.port p).assembly = ⟨.idle, []⟩) : (t.port p).assembly = ⟨.idle, []⟩ := by
  cases was : s.config.globals.ports.getLsbD p.val <;> cases is : sh.globals.ports.getLsbD p.val
  · rw [applied.samePorts p (was.trans is.symm)]; exact idle
  · rw [applied.entered p was is]
    split <;> exact idle
  · rw [applied.left p was is]
  · rw [applied.samePorts p (was.trans is.symm)]; exact idle

/-- The APPLY entry that reaches its count is carried, whatever the HOLD level (R41). -/
theorem countVotes_applies {e : Entry} {x : State} (counting : Counting e x) (subject : e.subject = .config)
    (action : e.action = .apply) (enough : e.required.toNat ≤ e.count) {o : MasterId} {sh : Configuration} {rev : W16}
    (voting : x.session = .voting o sh rev) {p : PortId} (idle : (x.port p).assembly = ⟨.idle, []⟩) :
    ∃ y t, countVotes e x = (t, .carried) ∧ Applied sh rev x y ∧ EntryEnds e .carried y t ∧
      (t.port p).assembly = ⟨.idle, []⟩ ∧ t.linkAddress = x.linkAddress := by
  have passive : e.activates = false := by rw [Entry.activates, subject]
  have state : e.state = .voting := by
    cases ready : e.state with
    | voting => rfl
    | ready => exact absurd (counting.own.ready ready).2 (by simp [passive])
  have applied := applyConfig_applied counting.tableLaw.subjects counting.tableLaw.ids sh rev
  have ends := endEntry_ends_of_outcome (applyConfig sh rev x) e .carried nofun nofun
  refine ⟨_, _, ?_, applied, ends, ?_, ?_⟩
  · rw [countVotes_carried x e state enough (.inr passive), carry_eq (by rw [action]; nofun),
      handOff_apply subject action voting]
  · rw [ends.frame]; exact applied.idle idle
  · rw [ends.frame, applied.frame]

/-- Settles O31: by the vote and by the commit alike, the entry that stands in a lawful table is counted and carried. -/
theorem applyMakesTheShadowCurrent : Obligations.ApplyMakesTheShadowCurrent := by
  refine ⟨fun p src tag index arg e o sh rev s lawful served votes unvoted enough voting => ⟨_, rfl, ?vote⟩,
    fun p src tag sh rev d s lawful served free editing room quorum => ⟨_, applyEntry s p rev, rfl, rfl, ?commit⟩⟩
  case vote =>
    obtain ⟨subject, action, member⟩ := votes.fields
    have eligible : (renew p src s).eligible p = true :=
      (State.eligible_iff _ _).mpr ⟨renew_present p src s, (renew_quarantined ..).trans votes.unquarantined⟩
    have counting := (lawful.renewed p src).voteEntry eligible (renew_table s p src ▸ member)
      fun k on => nomatch subject.symm.trans on
    obtain ⟨y, t, counted, applied, ends, idle, address⟩ := countVotes_applies counting subject action enough
      ((renew_session s p src).trans voting) (p := p) (served.idle (renew_ports s p src))
    exact vote_taken s p src tag index .config .apply arg e t .carried _ rfl trivial served votes unvoted counted nofun
      idle (address.trans (renew_linkAddress s p src)) ⟨y, applied, ends⟩
  case commit =>
    have free' : ((renew p src s).master p).quarantined = false := (renew_quarantined ..).trans free
    have editing' : (renew p src s).session = .editing p sh rev d := (renew_session ..).trans editing
    have room' : (renew p src s).table.length < 12 := renew_table s p src ▸ room
    have eligible : (renew p src s).eligible p = true := (State.eligible_iff _ _).mpr ⟨renew_present p src s, free'⟩
    have opens := openEntry_opens ((renew p src s).setSession (.voting p sh rev)) (applyEntry (renew p src s) p rev)
    have answer := reqCommitConfig_opens free' editing' room'
    have counting : Counting (applyEntry (renew p src s) p rev)
        (openEntry (applyEntry (renew p src s) p rev) ((renew p src s).setSession (.voting p sh rev))) :=
      (lawful.renewed p src).commitEntry eligible editing' room'
    have enough : (applyEntry (renew p src s) p rev).required.toNat ≤ (applyEntry (renew p src s) p rev).count := by
      rw [applyEntry_count, applyEntry_renew]
      exact quorum
    rw [applyEntry_renew] at opens answer counting enough
    have kept : (openEntry (applyEntry s p rev) ((renew p src s).setSession (.voting p sh rev))).ports = s.ports :=
      renew_ports s p src
    obtain ⟨y, t, counted, applied, ends, idle, address⟩ := countVotes_applies counting rfl rfl enough rfl (p := p)
      (served.idle kept)
    rw [counted, voteResult, applyEntry_count] at answer
    exact requestEvent_taken s p src tag .commitConfig [] .commitConfig t _ _ _ served rfl rfl answer nofun idle
      (address.trans (renew_linkAddress s p src)) ⟨_, y, opens, applied, ends⟩ rfl

end Sys2Proof.Machine
end
